-- ==== Sys2Proof/Word.lean ====
section
/-! DEFINITION. The two word widths of the core (00_scope.md R5, R6): bytes and 16-bit words. -/

namespace Sys2Proof

/-- An 8-bit value: a general register, a memory byte, an immediate, a displacement (R5). -/
abbrev Byte := BitVec 8

/-- A 16-bit value: a register pair, IX, IY, SP, PC, an address, a port address (R5). -/
abbrev Word := BitVec 16

end Sys2Proof
end

