-- ==== Sys2Proof/Config.lean ====
section
/-! DEFINITION. What an implementation fixes (00_scope.md R5) and the one free value of the spec. -/

namespace Sys2Proof

/-- The parameter FLAGS_PROFILE (00_scope.md R5, 92_eei_decisions.md D33): which flags the 16-bit ADD and the four
accumulator rotates write. -/
inductive FlagsProfile where
  /-- The source's explicit flag lists, the normative default. -/
  | source
  /-- The NMOS chip's behaviour. -/
  | nmos
  deriving DecidableEq, Repr

/-- The default of the parameter MEM_SIZE (00_scope.md R5): a full 16-bit address space. -/
def Config.defaultMemSize : Nat := 65536

/-- The default of the parameter FLAGS_PROFILE (00_scope.md R5). -/
def Config.defaultFlagsProfile : FlagsProfile := .source

/-- The `n`-th draw IO_IN (00_scope.md R5; 20_memory.md R86): the byte an input instruction reads from a port with
nothing staged, "any byte per read". It has no body, so no proof can see its value. DESIGN CHOICE (log entry 1): the
draws of one run are numbered by the counter `State.draws`. Safe: a statement holds whatever the bytes are. -/
opaque Config.freeByte : Nat → Byte

end Sys2Proof
end

