-- ==== Sys2Proof/Syntax.lean ====
section
/-! DEFINITION. The instructions, one constructor per row of spec/opcode_table.json, in the table's order
(30_encoding.md R108 to R115). Fields whose value the instruction ignores (the mirror bits of NEG, RETN, IM and
BIT b,(IX+d), the byte of NONI) are kept, so that an instruction says which of its encodings it is. -/

namespace Sys2Proof

/-- The seven 8-bit registers of the r table (30_encoding.md R104); code 110, memory, is a form of its own. -/
inductive Reg8 where
  | b | c | d | e | h | l | a
  deriving DecidableEq, Repr

/-- The rp table: the pairs of LD dd,nn, ADD HL,ss, INC ss and their like (30_encoding.md R105). -/
inductive Pair where
  | bc | de | hl | sp
  deriving DecidableEq, Repr

/-- The rp2 table: the pairs of PUSH and POP (30_encoding.md R105). -/
inductive StackPair where
  | bc | de | hl | af
  deriving DecidableEq, Repr

/-- The rp table under a DD or FD byte: code 10 names the index register itself (45_alu16.md R453, R454). -/
inductive IdxPair where
  | bc | de | xy | sp
  deriving DecidableEq, Repr

/-- A half of an index register (10_state.md R26): `hi` is IXH or IYH, `lo` is IXL or IYL. -/
inductive Half where
  | hi | lo
  deriving DecidableEq, Repr

/-- The condition codes (10_state.md R40). -/
inductive Cond where
  | nz | z | nc | c | po | pe | p | m
  deriving DecidableEq, Repr

/-- An instruction. `d` is a displacement byte, `e` a relative-jump byte, `n` and `nn` immediates (30_encoding.md R107),
`b` a bit number, `t` a restart number; `z : Option Reg8` is the register an indexed-bit form also copies its result
into, `none` for the documented form (30_encoding.md R113); `m`, `k`, `j` are mirror bits of the encoding. -/
inductive Instr where
  /-- `LD r,r'` (R200): 01rrrsss. -/
  | ldRR (dst : Reg8) (src : Reg8)
  /-- `LD r,n` (R201): 00rrr110 nnnnnnnn. -/
  | ldRN (dst : Reg8) (n : Byte)
  /-- `LD r,(HL)` (R202): 01rrr110. -/
  | ldRHl (dst : Reg8)
  /-- `LD r,(IX+d)` (R203): 11011101 01rrr110 dddddddd. -/
  | ldRIx (dst : Reg8) (d : Byte)
  /-- `LD r,(IY+d)` (R204): 11111101 01rrr110 dddddddd. -/
  | ldRIy (dst : Reg8) (d : Byte)
  /-- `LD (HL),r` (R205): 01110sss. -/
  | ldHlR (src : Reg8)
  /-- `LD (IX+d),r` (R206): 11011101 01110sss dddddddd. -/
  | ldIxR (d : Byte) (src : Reg8)
  /-- `LD (IY+d),r` (R207): 11111101 01110sss dddddddd. -/
  | ldIyR (d : Byte) (src : Reg8)
  /-- `LD (HL),n` (R208): 00110110 nnnnnnnn. -/
  | ldHlN (n : Byte)
  /-- `LD (IX+d),n` (R209): 11011101 00110110 dddddddd nnnnnnnn. -/
  | ldIxN (d : Byte) (n : Byte)
  /-- `LD (IY+d),n` (R210): 11111101 00110110 dddddddd nnnnnnnn. -/
  | ldIyN (d : Byte) (n : Byte)
  /-- `LD A,(BC)` (R211): 00001010. -/
  | ldABc
  /-- `LD A,(DE)` (R212): 00011010. -/
  | ldADe
  /-- `LD A,(nn)` (R213): 00111010 NNNNNNNN NNNNNNNN. -/
  | ldANn (nn : Word)
  /-- `LD (BC),A` (R214): 00000010. -/
  | ldBcA
  /-- `LD (DE),A` (R215): 00010010. -/
  | ldDeA
  /-- `LD (nn),A` (R216): 00110010 NNNNNNNN NNNNNNNN. -/
  | ldNnA (nn : Word)
  /-- `LD A,I` (R217): 11101101 01010111. -/
  | ldAI
  /-- `LD A,R` (R218): 11101101 01011111. -/
  | ldAR
  /-- `LD I,A` (R219): 11101101 01000111. -/
  | ldIA
  /-- `LD R,A` (R220): 11101101 01001111. -/
  | ldRA
  /-- `LD r,IXH / LD r,IXL` (R221): 11011101 01rrr10g. -/
  | ldRIxHalf (dst : Reg8) (g : Half)
  /-- `LD IXH,r / LD IXL,r` (R222): 11011101 0110gsss. -/
  | ldIxHalfR (g : Half) (src : Reg8)
  /-- `LD IXp,IXq` (R223): 11011101 0110g10h. -/
  | ldIxHalfHalf (g : Half) (h : Half)
  /-- `LD IXH,n / LD IXL,n` (R224): 11011101 0010g110 nnnnnnnn. -/
  | ldIxHalfN (g : Half) (n : Byte)
  /-- `LD r,IYH / LD r,IYL` (R225): 11111101 01rrr10g. -/
  | ldRIyHalf (dst : Reg8) (g : Half)
  /-- `LD IYH,r / LD IYL,r` (R226): 11111101 0110gsss. -/
  | ldIyHalfR (g : Half) (src : Reg8)
  /-- `LD IYp,IYq` (R227): 11111101 0110g10h. -/
  | ldIyHalfHalf (g : Half) (h : Half)
  /-- `LD IYH,n / LD IYL,n` (R228): 11111101 0010g110 nnnnnnnn. -/
  | ldIyHalfN (g : Half) (n : Byte)
  /-- `LD dd,nn` (R260): 00pp0001 NNNNNNNN NNNNNNNN. -/
  | ldDdNn (dd : Pair) (nn : Word)
  /-- `LD IX,nn` (R261): 11011101 00100001 NNNNNNNN NNNNNNNN. -/
  | ldIxNn (nn : Word)
  /-- `LD IY,nn` (R262): 11111101 00100001 NNNNNNNN NNNNNNNN. -/
  | ldIyNn (nn : Word)
  /-- `LD HL,(nn)` (R263): 00101010 NNNNNNNN NNNNNNNN. -/
  | ldHlMem (nn : Word)
  /-- `LD dd,(nn)` (R264): 11101101 01pp1011 NNNNNNNN NNNNNNNN. -/
  | ldDdMem (dd : Pair) (nn : Word)
  /-- `LD IX,(nn)` (R265): 11011101 00101010 NNNNNNNN NNNNNNNN. -/
  | ldIxMem (nn : Word)
  /-- `LD IY,(nn)` (R266): 11111101 00101010 NNNNNNNN NNNNNNNN. -/
  | ldIyMem (nn : Word)
  /-- `LD (nn),HL` (R267): 00100010 NNNNNNNN NNNNNNNN. -/
  | ldMemHl (nn : Word)
  /-- `LD (nn),dd` (R268): 11101101 01pp0011 NNNNNNNN NNNNNNNN. -/
  | ldMemDd (nn : Word) (dd : Pair)
  /-- `LD (nn),IX` (R269): 11011101 00100010 NNNNNNNN NNNNNNNN. -/
  | ldMemIx (nn : Word)
  /-- `LD (nn),IY` (R270): 11111101 00100010 NNNNNNNN NNNNNNNN. -/
  | ldMemIy (nn : Word)
  /-- `LD SP,HL` (R271): 11111001. -/
  | ldSpHl
  /-- `LD SP,IX` (R272): 11011101 11111001. -/
  | ldSpIx
  /-- `LD SP,IY` (R273): 11111101 11111001. -/
  | ldSpIy
  /-- `PUSH qq` (R274): 11qq0101. -/
  | pushQq (qq : StackPair)
  /-- `PUSH IX` (R275): 11011101 11100101. -/
  | pushIx
  /-- `PUSH IY` (R276): 11111101 11100101. -/
  | pushIy
  /-- `POP qq` (R277): 11qq0001. -/
  | popQq (qq : StackPair)
  /-- `POP IX` (R278): 11011101 11100001. -/
  | popIx
  /-- `POP IY` (R279): 11111101 11100001. -/
  | popIy
  /-- `EX DE,HL` (R300): 11101011. -/
  | exDeHl
  /-- `EX AF,AF'` (R301): 00001000. -/
  | exAfAf
  /-- `EXX` (R302): 11011001. -/
  | exx
  /-- `EX (SP),HL` (R303): 11100011. -/
  | exSpHl
  /-- `EX (SP),IX` (R304): 11011101 11100011. -/
  | exSpIx
  /-- `EX (SP),IY` (R305): 11111101 11100011. -/
  | exSpIy
  /-- `LDI` (R307): 11101101 10100000. -/
  | ldi
  /-- `LDIR` (R308): 11101101 10110000. -/
  | ldir
  /-- `LDD` (R309): 11101101 10101000. -/
  | ldd
  /-- `LDDR` (R310): 11101101 10111000. -/
  | lddr
  /-- `CPI` (R311): 11101101 10100001. -/
  | cpi
  /-- `CPIR` (R312): 11101101 10110001. -/
  | cpir
  /-- `CPD` (R313): 11101101 10101001. -/
  | cpd
  /-- `CPDR` (R314): 11101101 10111001. -/
  | cpdr
  /-- `ADD A,r` (R340): 10000sss. -/
  | addR (src : Reg8)
  /-- `ADD A,n` (R341): 11000110 nnnnnnnn. -/
  | addN (n : Byte)
  /-- `ADD A,(HL)` (R342): 10000110. -/
  | addMemHl
  /-- `ADD A,(IX+d)` (R343): 11011101 10000110 dddddddd. -/
  | addMemIx (d : Byte)
  /-- `ADD A,(IY+d)` (R344): 11111101 10000110 dddddddd. -/
  | addMemIy (d : Byte)
  /-- `ADD A,IXH / ADD A,IXL` (R345): 11011101 1000010g. -/
  | addIxHalf (g : Half)
  /-- `ADD A,IYH / ADD A,IYL` (R346): 11111101 1000010g. -/
  | addIyHalf (g : Half)
  /-- `ADC A,r` (R347): 10001sss. -/
  | adcR (src : Reg8)
  /-- `ADC A,n` (R348): 11001110 nnnnnnnn. -/
  | adcN (n : Byte)
  /-- `ADC A,(HL)` (R349): 10001110. -/
  | adcMemHl
  /-- `ADC A,(IX+d)` (R350): 11011101 10001110 dddddddd. -/
  | adcMemIx (d : Byte)
  /-- `ADC A,(IY+d)` (R351): 11111101 10001110 dddddddd. -/
  | adcMemIy (d : Byte)
  /-- `ADC A,IXH / ADC A,IXL` (R352): 11011101 1000110g. -/
  | adcIxHalf (g : Half)
  /-- `ADC A,IYH / ADC A,IYL` (R353): 11111101 1000110g. -/
  | adcIyHalf (g : Half)
  /-- `SUB r` (R354): 10010sss. -/
  | subR (src : Reg8)
  /-- `SUB n` (R355): 11010110 nnnnnnnn. -/
  | subN (n : Byte)
  /-- `SUB (HL)` (R356): 10010110. -/
  | subMemHl
  /-- `SUB (IX+d)` (R357): 11011101 10010110 dddddddd. -/
  | subMemIx (d : Byte)
  /-- `SUB (IY+d)` (R358): 11111101 10010110 dddddddd. -/
  | subMemIy (d : Byte)
  /-- `SUB IXH / SUB IXL` (R359): 11011101 1001010g. -/
  | subIxHalf (g : Half)
  /-- `SUB IYH / SUB IYL` (R360): 11111101 1001010g. -/
  | subIyHalf (g : Half)
  /-- `SBC A,r` (R361): 10011sss. -/
  | sbcR (src : Reg8)
  /-- `SBC A,n` (R362): 11011110 nnnnnnnn. -/
  | sbcN (n : Byte)
  /-- `SBC A,(HL)` (R363): 10011110. -/
  | sbcMemHl
  /-- `SBC A,(IX+d)` (R364): 11011101 10011110 dddddddd. -/
  | sbcMemIx (d : Byte)
  /-- `SBC A,(IY+d)` (R365): 11111101 10011110 dddddddd. -/
  | sbcMemIy (d : Byte)
  /-- `SBC A,IXH / SBC A,IXL` (R366): 11011101 1001110g. -/
  | sbcIxHalf (g : Half)
  /-- `SBC A,IYH / SBC A,IYL` (R367): 11111101 1001110g. -/
  | sbcIyHalf (g : Half)
  /-- `AND r` (R368): 10100sss. -/
  | andR (src : Reg8)
  /-- `AND n` (R369): 11100110 nnnnnnnn. -/
  | andN (n : Byte)
  /-- `AND (HL)` (R370): 10100110. -/
  | andMemHl
  /-- `AND (IX+d)` (R371): 11011101 10100110 dddddddd. -/
  | andMemIx (d : Byte)
  /-- `AND (IY+d)` (R372): 11111101 10100110 dddddddd. -/
  | andMemIy (d : Byte)
  /-- `AND IXH / AND IXL` (R373): 11011101 1010010g. -/
  | andIxHalf (g : Half)
  /-- `AND IYH / AND IYL` (R374): 11111101 1010010g. -/
  | andIyHalf (g : Half)
  /-- `OR r` (R375): 10110sss. -/
  | orR (src : Reg8)
  /-- `OR n` (R376): 11110110 nnnnnnnn. -/
  | orN (n : Byte)
  /-- `OR (HL)` (R377): 10110110. -/
  | orMemHl
  /-- `OR (IX+d)` (R378): 11011101 10110110 dddddddd. -/
  | orMemIx (d : Byte)
  /-- `OR (IY+d)` (R379): 11111101 10110110 dddddddd. -/
  | orMemIy (d : Byte)
  /-- `OR IXH / OR IXL` (R380): 11011101 1011010g. -/
  | orIxHalf (g : Half)
  /-- `OR IYH / OR IYL` (R381): 11111101 1011010g. -/
  | orIyHalf (g : Half)
  /-- `XOR r` (R382): 10101sss. -/
  | xorR (src : Reg8)
  /-- `XOR n` (R383): 11101110 nnnnnnnn. -/
  | xorN (n : Byte)
  /-- `XOR (HL)` (R384): 10101110. -/
  | xorMemHl
  /-- `XOR (IX+d)` (R385): 11011101 10101110 dddddddd. -/
  | xorMemIx (d : Byte)
  /-- `XOR (IY+d)` (R386): 11111101 10101110 dddddddd. -/
  | xorMemIy (d : Byte)
  /-- `XOR IXH / XOR IXL` (R387): 11011101 1010110g. -/
  | xorIxHalf (g : Half)
  /-- `XOR IYH / XOR IYL` (R388): 11111101 1010110g. -/
  | xorIyHalf (g : Half)
  /-- `CP r` (R389): 10111sss. -/
  | cpR (src : Reg8)
  /-- `CP n` (R390): 11111110 nnnnnnnn. -/
  | cpN (n : Byte)
  /-- `CP (HL)` (R391): 10111110. -/
  | cpMemHl
  /-- `CP (IX+d)` (R392): 11011101 10111110 dddddddd. -/
  | cpMemIx (d : Byte)
  /-- `CP (IY+d)` (R393): 11111101 10111110 dddddddd. -/
  | cpMemIy (d : Byte)
  /-- `CP IXH / CP IXL` (R394): 11011101 1011110g. -/
  | cpIxHalf (g : Half)
  /-- `CP IYH / CP IYL` (R395): 11111101 1011110g. -/
  | cpIyHalf (g : Half)
  /-- `INC r` (R396): 00rrr100. -/
  | incR (dst : Reg8)
  /-- `INC (HL)` (R397): 00110100. -/
  | incMemHl
  /-- `INC (IX+d)` (R398): 11011101 00110100 dddddddd. -/
  | incMemIx (d : Byte)
  /-- `INC (IY+d)` (R399): 11111101 00110100 dddddddd. -/
  | incMemIy (d : Byte)
  /-- `INC IXH / INC IXL` (R400): 11011101 0010g100. -/
  | incIxHalf (g : Half)
  /-- `INC IYH / INC IYL` (R401): 11111101 0010g100. -/
  | incIyHalf (g : Half)
  /-- `DEC r` (R402): 00rrr101. -/
  | decR (dst : Reg8)
  /-- `DEC (HL)` (R403): 00110101. -/
  | decMemHl
  /-- `DEC (IX+d)` (R404): 11011101 00110101 dddddddd. -/
  | decMemIx (d : Byte)
  /-- `DEC (IY+d)` (R405): 11111101 00110101 dddddddd. -/
  | decMemIy (d : Byte)
  /-- `DEC IXH / DEC IXL` (R406): 11011101 0010g101. -/
  | decIxHalf (g : Half)
  /-- `DEC IYH / DEC IYL` (R407): 11111101 0010g101. -/
  | decIyHalf (g : Half)
  /-- `DAA` (R420): 00100111. -/
  | daa
  /-- `CPL` (R421): 00101111. -/
  | cpl
  /-- `NEG` (R422): 11101101 01iii100. -/
  | neg (m : BitVec 3)
  /-- `CCF` (R423): 00111111. -/
  | ccf
  /-- `SCF` (R424): 00110111. -/
  | scf
  /-- `NOP` (R425): 00000000. -/
  | nop
  /-- `HALT` (R426): 01110110. -/
  | halt
  /-- `DI` (R427): 11110011. -/
  | di
  /-- `EI` (R428): 11111011. -/
  | ei
  /-- `IM 0` (R429): 11101101 01i0m110. -/
  | im0 (m : Bool) (k : Bool)
  /-- `IM 1` (R430): 11101101 01i10110. -/
  | im1 (m : Bool)
  /-- `IM 2` (R431): 11101101 01i11110. -/
  | im2 (m : Bool)
  /-- `NONI (undefined ED opcode)` (R432): 11101101 yyyyyyyy. -/
  | noni (op : Byte)
  /-- `prefix ignored (DD/FD before an opcode that uses no H, L, HL or (HL))` (R433): 11x11101. -/
  | prefixIgnored (fd : Bool)
  /-- `ADD HL,ss` (R450): 00pp1001. -/
  | addHlSs (ss : Pair)
  /-- `ADC HL,ss` (R451): 11101101 01pp1010. -/
  | adcHlSs (ss : Pair)
  /-- `SBC HL,ss` (R452): 11101101 01pp0010. -/
  | sbcHlSs (ss : Pair)
  /-- `ADD IX,pp` (R453): 11011101 00xx1001. -/
  | addIxPp (pp : IdxPair)
  /-- `ADD IY,rr` (R454): 11111101 00xx1001. -/
  | addIyRr (rr : IdxPair)
  /-- `INC ss` (R455): 00pp0011. -/
  | incSs (ss : Pair)
  /-- `INC IX` (R456): 11011101 00100011. -/
  | incIx
  /-- `INC IY` (R457): 11111101 00100011. -/
  | incIy
  /-- `DEC ss` (R458): 00pp1011. -/
  | decSs (ss : Pair)
  /-- `DEC IX` (R459): 11011101 00101011. -/
  | decIx
  /-- `DEC IY` (R460): 11111101 00101011. -/
  | decIy
  /-- `RLCA` (R470): 00000111. -/
  | rlca
  /-- `RLA` (R471): 00010111. -/
  | rla
  /-- `RRCA` (R472): 00001111. -/
  | rrca
  /-- `RRA` (R473): 00011111. -/
  | rra
  /-- `RLC r` (R475): 11001011 00000sss. -/
  | rlcR (dst : Reg8)
  /-- `RLC (HL)` (R476): 11001011 00000110. -/
  | rlcMemHl
  /-- `RLC (IX+d)` (R477): 11011101 11001011 dddddddd 00000zzz. -/
  | rlcMemIx (d : Byte) (z : Option Reg8)
  /-- `RLC (IY+d)` (R478): 11111101 11001011 dddddddd 00000zzz. -/
  | rlcMemIy (d : Byte) (z : Option Reg8)
  /-- `RL r` (R479): 11001011 00010sss. -/
  | rlR (dst : Reg8)
  /-- `RL (HL)` (R480): 11001011 00010110. -/
  | rlMemHl
  /-- `RL (IX+d)` (R481): 11011101 11001011 dddddddd 00010zzz. -/
  | rlMemIx (d : Byte) (z : Option Reg8)
  /-- `RL (IY+d)` (R482): 11111101 11001011 dddddddd 00010zzz. -/
  | rlMemIy (d : Byte) (z : Option Reg8)
  /-- `RRC r` (R483): 11001011 00001sss. -/
  | rrcR (dst : Reg8)
  /-- `RRC (HL)` (R484): 11001011 00001110. -/
  | rrcMemHl
  /-- `RRC (IX+d)` (R485): 11011101 11001011 dddddddd 00001zzz. -/
  | rrcMemIx (d : Byte) (z : Option Reg8)
  /-- `RRC (IY+d)` (R486): 11111101 11001011 dddddddd 00001zzz. -/
  | rrcMemIy (d : Byte) (z : Option Reg8)
  /-- `RR r` (R487): 11001011 00011sss. -/
  | rrR (dst : Reg8)
  /-- `RR (HL)` (R488): 11001011 00011110. -/
  | rrMemHl
  /-- `RR (IX+d)` (R489): 11011101 11001011 dddddddd 00011zzz. -/
  | rrMemIx (d : Byte) (z : Option Reg8)
  /-- `RR (IY+d)` (R490): 11111101 11001011 dddddddd 00011zzz. -/
  | rrMemIy (d : Byte) (z : Option Reg8)
  /-- `SLA r` (R491): 11001011 00100sss. -/
  | slaR (dst : Reg8)
  /-- `SLA (HL)` (R492): 11001011 00100110. -/
  | slaMemHl
  /-- `SLA (IX+d)` (R493): 11011101 11001011 dddddddd 00100zzz. -/
  | slaMemIx (d : Byte) (z : Option Reg8)
  /-- `SLA (IY+d)` (R494): 11111101 11001011 dddddddd 00100zzz. -/
  | slaMemIy (d : Byte) (z : Option Reg8)
  /-- `SRA r` (R495): 11001011 00101sss. -/
  | sraR (dst : Reg8)
  /-- `SRA (HL)` (R496): 11001011 00101110. -/
  | sraMemHl
  /-- `SRA (IX+d)` (R497): 11011101 11001011 dddddddd 00101zzz. -/
  | sraMemIx (d : Byte) (z : Option Reg8)
  /-- `SRA (IY+d)` (R498): 11111101 11001011 dddddddd 00101zzz. -/
  | sraMemIy (d : Byte) (z : Option Reg8)
  /-- `SRL r` (R499): 11001011 00111sss. -/
  | srlR (dst : Reg8)
  /-- `SRL (HL)` (R500): 11001011 00111110. -/
  | srlMemHl
  /-- `SRL (IX+d)` (R501): 11011101 11001011 dddddddd 00111zzz. -/
  | srlMemIx (d : Byte) (z : Option Reg8)
  /-- `SRL (IY+d)` (R502): 11111101 11001011 dddddddd 00111zzz. -/
  | srlMemIy (d : Byte) (z : Option Reg8)
  /-- `SLL r` (R503): 11001011 00110sss. -/
  | sllR (dst : Reg8)
  /-- `SLL (HL)` (R504): 11001011 00110110. -/
  | sllMemHl
  /-- `SLL (IX+d)` (R505): 11011101 11001011 dddddddd 00110zzz. -/
  | sllMemIx (d : Byte) (z : Option Reg8)
  /-- `SLL (IY+d)` (R506): 11111101 11001011 dddddddd 00110zzz. -/
  | sllMemIy (d : Byte) (z : Option Reg8)
  /-- `RLD` (R507): 11101101 01101111. -/
  | rld
  /-- `RRD` (R508): 11101101 01100111. -/
  | rrd
  /-- `BIT b,r` (R520): 11001011 01bbbsss. -/
  | bitR (b : BitVec 3) (src : Reg8)
  /-- `BIT b,(HL)` (R521): 11001011 01bbb110. -/
  | bitMemHl (b : BitVec 3)
  /-- `BIT b,(IX+d)` (R522): 11011101 11001011 dddddddd 01bbbjjj. -/
  | bitMemIx (b : BitVec 3) (d : Byte) (j : BitVec 3)
  /-- `BIT b,(IY+d)` (R523): 11111101 11001011 dddddddd 01bbbjjj. -/
  | bitMemIy (b : BitVec 3) (d : Byte) (j : BitVec 3)
  /-- `SET b,r` (R524): 11001011 11bbbsss. -/
  | setR (b : BitVec 3) (dst : Reg8)
  /-- `SET b,(HL)` (R525): 11001011 11bbb110. -/
  | setMemHl (b : BitVec 3)
  /-- `SET b,(IX+d)` (R526): 11011101 11001011 dddddddd 11bbbzzz. -/
  | setMemIx (b : BitVec 3) (d : Byte) (z : Option Reg8)
  /-- `SET b,(IY+d)` (R527): 11111101 11001011 dddddddd 11bbbzzz. -/
  | setMemIy (b : BitVec 3) (d : Byte) (z : Option Reg8)
  /-- `RES b,r` (R528): 11001011 10bbbsss. -/
  | resR (b : BitVec 3) (dst : Reg8)
  /-- `RES b,(HL)` (R529): 11001011 10bbb110. -/
  | resMemHl (b : BitVec 3)
  /-- `RES b,(IX+d)` (R530): 11011101 11001011 dddddddd 10bbbzzz. -/
  | resMemIx (b : BitVec 3) (d : Byte) (z : Option Reg8)
  /-- `RES b,(IY+d)` (R531): 11111101 11001011 dddddddd 10bbbzzz. -/
  | resMemIy (b : BitVec 3) (d : Byte) (z : Option Reg8)
  /-- `JP nn` (R540): 11000011 NNNNNNNN NNNNNNNN. -/
  | jpNn (nn : Word)
  /-- `JP cc,nn` (R541): 11ccc010 NNNNNNNN NNNNNNNN. -/
  | jpCc (cc : Cond) (nn : Word)
  /-- `JR e` (R542): 00011000 eeeeeeee. -/
  | jr (e : Byte)
  /-- `JR cc,e` (R543): 001kk000 eeeeeeee. -/
  | jrCc (cc : Cond) (e : Byte)
  /-- `JP (HL)` (R544): 11101001. -/
  | jpHl
  /-- `JP (IX)` (R545): 11011101 11101001. -/
  | jpIx
  /-- `JP (IY)` (R546): 11111101 11101001. -/
  | jpIy
  /-- `DJNZ e` (R547): 00010000 eeeeeeee. -/
  | djnz (e : Byte)
  /-- `CALL nn` (R548): 11001101 NNNNNNNN NNNNNNNN. -/
  | callNn (nn : Word)
  /-- `CALL cc,nn` (R549): 11ccc100 NNNNNNNN NNNNNNNN. -/
  | callCc (cc : Cond) (nn : Word)
  /-- `RET` (R550): 11001001. -/
  | ret
  /-- `RET cc` (R551): 11ccc000. -/
  | retCc (cc : Cond)
  /-- `RETI` (R552): 11101101 01001101. -/
  | reti
  /-- `RETN` (R553): 11101101 01iii101. -/
  | retn (m : BitVec 3)
  /-- `RST p` (R554): 11ttt111. -/
  | rst (t : BitVec 3)
  /-- `IN A,(n)` (R581): 11011011 nnnnnnnn. -/
  | inAN (n : Byte)
  /-- `IN r,(C)` (R582): 11101101 01rrr000. -/
  | inRC (dst : Reg8)
  /-- `IN (C)` (R583): 11101101 01110000. -/
  | inC
  /-- `INI` (R584): 11101101 10100010. -/
  | ini
  /-- `INIR` (R585): 11101101 10110010. -/
  | inir
  /-- `IND` (R586): 11101101 10101010. -/
  | ind
  /-- `INDR` (R587): 11101101 10111010. -/
  | indr
  /-- `OUT (n),A` (R588): 11010011 nnnnnnnn. -/
  | outNA (n : Byte)
  /-- `OUT (C),r` (R589): 11101101 01rrr001. -/
  | outCR (src : Reg8)
  /-- `OUT (C),0` (R590): 11101101 01110001. -/
  | outC0
  /-- `OUTI` (R591): 11101101 10100011. -/
  | outi
  /-- `OTIR` (R592): 11101101 10110011. -/
  | otir
  /-- `OUTD` (R593): 11101101 10101011. -/
  | outd
  /-- `OTDR` (R594): 11101101 10111011. -/
  | otdr
  deriving DecidableEq, Repr

end Sys2Proof
end

