-- ==== Sys2Proof/WellFormed.lean ====
section
/-! DEFINITION. The checks on the fields of an instruction that its types do not make: the `exclude` entries of
spec/opcode_table.json that remain (30_encoding.md R116), the four conditions of JR cc, and the NONI byte list. -/

namespace Sys2Proof

/-- The second bytes after ED that name no instruction (30_encoding.md R115): ED 00-3F, 77, 7F, 80-9F, A4-A7, AC-AF,
B4-B7, BC-BF, C0-FF. -/
def isNoniByte (op : Byte) : Bool :=
  let n := op.toNat
  n ≤ 0x3F || n = 0x77 || n = 0x7F || (0x80 ≤ n && n ≤ 0x9F) || (0xA4 ≤ n && n ≤ 0xA7) || (0xAC ≤ n && n ≤ 0xAF)
    || (0xB4 ≤ n && n ≤ 0xB7) || (0xBC ≤ n && n ≤ 0xBF) || 0xC0 ≤ n

/-- The registers that the index-half loads reach: B, C, D, E and A (40_load8.md R221, R222, R225, R226); codes 100
and 101 are the halves themselves there. -/
def Reg8.notHL : Reg8 → Bool
  | .h | .l => false
  | _ => true

/-- The conditions JR has: NZ, Z, NC, C (48_jump_call_return.md R543). -/
def Cond.ofJr : Cond → Bool
  | .nz | .z | .nc | .c => true
  | _ => false

/-- The well-formed instructions: those that some byte sequence encodes. -/
def Instr.wf : Instr → Bool
  | .ldRIxHalf dst _ | .ldRIyHalf dst _ => dst.notHL
  | .ldIxHalfR _ src | .ldIyHalfR _ src => src.notHL
  | .jrCc cc _ => cc.ofJr
  | .noni op => isNoniByte op
  | .retn m => m != 1
  | _ => true

end Sys2Proof
end

