-- ==== Sys2Proof/Decode.lean ====
section
/-! DEFINITION. Encoding and decoding (30_encoding.md): byte order and field helpers, the register and condition codes,
the decoder by the x, y, z fields of R102 and the maps R108 to R115, the length rule R103, and the encoder. -/

namespace Sys2Proof

/-! ### Bytes and words (00_scope.md R6, R7) -/

/-- `hi : lo`, the word of two bytes, high half first (R6). -/
def joinBytes (hi lo : Byte) : Word := hi ++ lo

/-- `hi(v) = v[15:8]` (R6). -/
def hiByte (v : Word) : Byte := v.extractLsb' 8 8

/-- `lo(v) = v[7:0]` (R6). -/
def loByte (v : Word) : Byte := v.extractLsb' 0 8

/-- `sext_16(d)`: a byte read as two's complement, at 16 bits (R7). -/
def sext16 (d : Byte) : Word := d.signExtend 16

/-! ### Fields of the opcode byte (30_encoding.md R102) -/

/-- `x = op[7:6]`. -/
def fieldX (op : Byte) : BitVec 2 := op.extractLsb' 6 2
/-- `y = op[5:3]`. -/
def fieldY (op : Byte) : BitVec 3 := op.extractLsb' 3 3
/-- `z = op[2:0]`. -/
def fieldZ (op : Byte) : BitVec 3 := op.extractLsb' 0 3
/-- `p = op[5:4]`. -/
def fieldP (op : Byte) : BitVec 2 := op.extractLsb' 4 2
/-- `q = op[3]`. -/
def fieldQ (op : Byte) : Bool := op.getLsbD 3

/-! ### Register, pair, half and condition codes (30_encoding.md R104 to R106; 10_state.md R40) -/

/-- The r table (R104). -/
def Reg8.code : Reg8 → BitVec 3
  | .b => 0 | .c => 1 | .d => 2 | .e => 3 | .h => 4 | .l => 5 | .a => 7

/-- The r table read backwards; code 110 is `(HL)`, no register (R104). -/
def reg8OfCode (k : BitVec 3) : Option Reg8 :=
  match k.toNat with
  | 0 => some .b | 1 => some .c | 2 => some .d | 3 => some .e | 4 => some .h | 5 => some .l | 6 => none | _ => some .a

/-- The z field of an indexed-bit form: the register that also receives the result, 110 for none (R113). -/
def copyCode : Option Reg8 → BitVec 3
  | none => 6
  | some r => r.code

/-- The rp table (R105). -/
def Pair.code : Pair → BitVec 2
  | .bc => 0 | .de => 1 | .hl => 2 | .sp => 3

/-- The rp table read backwards (R105). -/
def pairOfCode (k : BitVec 2) : Pair :=
  match k.toNat with
  | 0 => .bc | 1 => .de | 2 => .hl | _ => .sp

/-- The rp2 table (R105). -/
def StackPair.code : StackPair → BitVec 2
  | .bc => 0 | .de => 1 | .hl => 2 | .af => 3

/-- The rp2 table read backwards (R105). -/
def stackPairOfCode (k : BitVec 2) : StackPair :=
  match k.toNat with
  | 0 => .bc | 1 => .de | 2 => .hl | _ => .af

/-- The rp table with the index register in place of HL (R105, R110). -/
def IdxPair.code : IdxPair → BitVec 2
  | .bc => 0 | .de => 1 | .xy => 2 | .sp => 3

/-- That table read backwards (R105, R110). -/
def idxPairOfCode (k : BitVec 2) : IdxPair :=
  match k.toNat with
  | 0 => .bc | 1 => .de | 2 => .xy | _ => .sp

/-- The low bit of the code of an index half: 100 for the high half, 101 for the low (R110). -/
def Half.code : Half → BitVec 1
  | .hi => 0 | .lo => 1

/-- The half a code bit names (R110). -/
def halfOfBit (k : Bool) : Half := if k then .lo else .hi

/-- The half a 3-bit register code names under DD or FD: 100 the high, 101 the low, the other codes none (R110). -/
def halfOfCode (k : BitVec 3) : Option Half :=
  match k.toNat with
  | 4 => some .hi | 5 => some .lo | _ => none

/-- The condition codes (10_state.md R40). -/
def Cond.code : Cond → BitVec 3
  | .nz => 0 | .z => 1 | .nc => 2 | .c => 3 | .po => 4 | .pe => 5 | .p => 6 | .m => 7

/-- The condition codes read backwards (10_state.md R40). -/
def condOfCode (k : BitVec 3) : Cond :=
  match k.toNat with
  | 0 => .nz | 1 => .z | 2 => .nc | 3 => .c | 4 => .po | 5 => .pe | 6 => .p | _ => .m

/-- The 2-bit condition field of JR cc, `cc = y - 4` (R106). -/
def Cond.jrCode (cc : Cond) : BitVec 2 := cc.code.setWidth 2

/-! ### The operation tables (30_encoding.md R106) -/

/-- ALU operation `y` with a register operand (R106, R108). -/
def aluR (y : BitVec 3) (r : Reg8) : Instr :=
  match y.toNat with
  | 0 => .addR r | 1 => .adcR r | 2 => .subR r | 3 => .sbcR r | 4 => .andR r | 5 => .xorR r | 6 => .orR r | _ => .cpR r

/-- ALU operation `y` with an immediate byte (R106, R108). -/
def aluN (y : BitVec 3) (n : Byte) : Instr :=
  match y.toNat with
  | 0 => .addN n | 1 => .adcN n | 2 => .subN n | 3 => .sbcN n | 4 => .andN n | 5 => .xorN n | 6 => .orN n | _ => .cpN n

/-- ALU operation `y` on `(HL)` (R106, R108). -/
def aluMemHl (y : BitVec 3) : Instr :=
  match y.toNat with
  | 0 => .addMemHl | 1 => .adcMemHl | 2 => .subMemHl | 3 => .sbcMemHl
  | 4 => .andMemHl | 5 => .xorMemHl | 6 => .orMemHl | _ => .cpMemHl

/-- ALU operation `y` on `(IX+d)`, or `(IY+d)` when `fd` (R106, R110). -/
def aluMemXy (fd : Bool) (y : BitVec 3) (d : Byte) : Instr :=
  match y.toNat, fd with
  | 0, false => .addMemIx d | 1, false => .adcMemIx d | 2, false => .subMemIx d | 3, false => .sbcMemIx d
  | 4, false => .andMemIx d | 5, false => .xorMemIx d | 6, false => .orMemIx d | _, false => .cpMemIx d
  | 0, true => .addMemIy d | 1, true => .adcMemIy d | 2, true => .subMemIy d | 3, true => .sbcMemIy d
  | 4, true => .andMemIy d | 5, true => .xorMemIy d | 6, true => .orMemIy d | _, true => .cpMemIy d

/-- ALU operation `y` on a half of IX, or of IY when `fd` (R106, R110). -/
def aluHalf (fd : Bool) (y : BitVec 3) (g : Half) : Instr :=
  match y.toNat, fd with
  | 0, false => .addIxHalf g | 1, false => .adcIxHalf g | 2, false => .subIxHalf g | 3, false => .sbcIxHalf g
  | 4, false => .andIxHalf g | 5, false => .xorIxHalf g | 6, false => .orIxHalf g | _, false => .cpIxHalf g
  | 0, true => .addIyHalf g | 1, true => .adcIyHalf g | 2, true => .subIyHalf g | 3, true => .sbcIyHalf g
  | 4, true => .andIyHalf g | 5, true => .xorIyHalf g | 6, true => .orIyHalf g | _, true => .cpIyHalf g

/-- Rotate or shift `y` of a register (R106, R109). -/
def rotR (y : BitVec 3) (r : Reg8) : Instr :=
  match y.toNat with
  | 0 => .rlcR r | 1 => .rrcR r | 2 => .rlR r | 3 => .rrR r | 4 => .slaR r | 5 => .sraR r | 6 => .sllR r | _ => .srlR r

/-- Rotate or shift `y` of `(HL)` (R106, R109). -/
def rotMemHl (y : BitVec 3) : Instr :=
  match y.toNat with
  | 0 => .rlcMemHl | 1 => .rrcMemHl | 2 => .rlMemHl | 3 => .rrMemHl
  | 4 => .slaMemHl | 5 => .sraMemHl | 6 => .sllMemHl | _ => .srlMemHl

/-- Rotate or shift `y` of `(IX+d)`, or `(IY+d)` when `fd`, with the register copy `z` (R106, R113). -/
def rotMemXy (fd : Bool) (y : BitVec 3) (d : Byte) (z : Option Reg8) : Instr :=
  match y.toNat, fd with
  | 0, false => .rlcMemIx d z | 1, false => .rrcMemIx d z | 2, false => .rlMemIx d z | 3, false => .rrMemIx d z
  | 4, false => .slaMemIx d z | 5, false => .sraMemIx d z | 6, false => .sllMemIx d z | _, false => .srlMemIx d z
  | 0, true => .rlcMemIy d z | 1, true => .rrcMemIy d z | 2, true => .rlMemIy d z | 3, true => .rrMemIy d z
  | 4, true => .slaMemIy d z | 5, true => .sraMemIy d z | 6, true => .sllMemIy d z | _, true => .srlMemIy d z

/-- The IX instruction, or the IY one when the first byte is FD (R110). -/
def byIndex (fd : Bool) (ix iy : Instr) : Instr := if fd then iy else ix

/-! ### The maps -/

/-- The unprefixed map, x = 0 (30_encoding.md R108); `b1`, `b2` are the bytes after the opcode. -/
def decodeX0 (y z : BitVec 3) (p : BitVec 2) (q : Bool) (b1 b2 : Byte) : Instr :=
  match z.toNat with
  | 0 => match y.toNat with
    | 0 => .nop
    | 1 => .exAfAf
    | 2 => .djnz b1
    | 3 => .jr b1
    | _ => .jrCc (condOfCode (y - 4)) b1
  | 1 => if q then .addHlSs (pairOfCode p) else .ldDdNn (pairOfCode p) (joinBytes b2 b1)
  | 2 => match y.toNat with
    | 0 => .ldBcA
    | 1 => .ldABc
    | 2 => .ldDeA
    | 3 => .ldADe
    | 4 => .ldMemHl (joinBytes b2 b1)
    | 5 => .ldHlMem (joinBytes b2 b1)
    | 6 => .ldNnA (joinBytes b2 b1)
    | _ => .ldANn (joinBytes b2 b1)
  | 3 => if q then .decSs (pairOfCode p) else .incSs (pairOfCode p)
  | 4 => match reg8OfCode y with
    | some r => .incR r
    | none => .incMemHl
  | 5 => match reg8OfCode y with
    | some r => .decR r
    | none => .decMemHl
  | 6 => match reg8OfCode y with
    | some r => .ldRN r b1
    | none => .ldHlN b1
  | _ => match y.toNat with
    | 0 => .rlca
    | 1 => .rrca
    | 2 => .rla
    | 3 => .rra
    | 4 => .daa
    | 5 => .cpl
    | 6 => .scf
    | _ => .ccf

/-- The unprefixed map, x = 1: the 8-bit loads, and HALT at 0x76 (30_encoding.md R108). -/
def decodeX1 (y z : BitVec 3) : Instr :=
  match reg8OfCode y, reg8OfCode z with
  | some dst, some src => .ldRR dst src
  | some dst, none => .ldRHl dst
  | none, some src => .ldHlR src
  | none, none => .halt

/-- The unprefixed map, x = 3 (30_encoding.md R108). The four cells that begin another map (CB, DD, ED, FD) never
reach this function: `decodeBytes` takes them first. -/
def decodeX3 (y z : BitVec 3) (p : BitVec 2) (q : Bool) (b1 b2 : Byte) : Instr :=
  match z.toNat with
  | 0 => .retCc (condOfCode y)
  | 1 => if q then
      match p.toNat with
      | 0 => .ret
      | 1 => .exx
      | 2 => .jpHl
      | _ => .ldSpHl
    else .popQq (stackPairOfCode p)
  | 2 => .jpCc (condOfCode y) (joinBytes b2 b1)
  | 3 => match y.toNat with
    | 2 => .outNA b1
    | 3 => .inAN b1
    | 4 => .exSpHl
    | 5 => .exDeHl
    | 6 => .di
    | 7 => .ei
    | _ => .jpNn (joinBytes b2 b1)
  | 4 => .callCc (condOfCode y) (joinBytes b2 b1)
  | 5 => if q then .callNn (joinBytes b2 b1) else .pushQq (stackPairOfCode p)
  | 6 => aluN y b1
  | _ => .rst y

/-- The unprefixed map (30_encoding.md R108). -/
def decodeBase (op b1 b2 : Byte) : Instr :=
  match (fieldX op).toNat with
  | 0 => decodeX0 (fieldY op) (fieldZ op) (fieldP op) (fieldQ op) b1 b2
  | 1 => decodeX1 (fieldY op) (fieldZ op)
  | 2 => match reg8OfCode (fieldZ op) with
    | some r => aluR (fieldY op) r
    | none => aluMemHl (fieldY op)
  | _ => decodeX3 (fieldY op) (fieldZ op) (fieldP op) (fieldQ op) b1 b2

/-- The CB map (30_encoding.md R109). -/
def decodeCb (op : Byte) : Instr :=
  match (fieldX op).toNat, reg8OfCode (fieldZ op) with
  | 0, some r => rotR (fieldY op) r
  | 0, none => rotMemHl (fieldY op)
  | 1, some r => .bitR (fieldY op) r
  | 1, none => .bitMemHl (fieldY op)
  | 2, some r => .resR (fieldY op) r
  | 2, none => .resMemHl (fieldY op)
  | _, some r => .setR (fieldY op) r
  | _, none => .setMemHl (fieldY op)

/-- The ED map, x = 1 (30_encoding.md R114); `b2`, `b3` are the bytes after the opcode. -/
def decodeEdX1 (op b2 b3 : Byte) : Instr :=
  let y := fieldY op
  match (fieldZ op).toNat with
  | 0 => match reg8OfCode y with
    | some r => .inRC r
    | none => .inC
  | 1 => match reg8OfCode y with
    | some r => .outCR r
    | none => .outC0
  | 2 => if fieldQ op then .adcHlSs (pairOfCode (fieldP op)) else .sbcHlSs (pairOfCode (fieldP op))
  | 3 => if fieldQ op then .ldDdMem (pairOfCode (fieldP op)) (joinBytes b3 b2)
    else .ldMemDd (joinBytes b3 b2) (pairOfCode (fieldP op))
  | 4 => .neg y
  | 5 => if y = 1 then .reti else .retn y
  | 6 => match (y.extractLsb' 0 2).toNat with
    | 2 => .im1 (y.getLsbD 2)
    | 3 => .im2 (y.getLsbD 2)
    | _ => .im0 (y.getLsbD 2) (y.getLsbD 0)
  | _ => match y.toNat with
    | 0 => .ldIA
    | 1 => .ldRA
    | 2 => .ldAI
    | 3 => .ldAR
    | 4 => .rrd
    | 5 => .rld
    | _ => .noni op

/-- The ED map, x = 2: the sixteen block instructions at y >= 4 and z <= 3, NONI elsewhere (30_encoding.md R114). -/
def decodeEdX2 (op : Byte) : Instr :=
  match (fieldY op).toNat, (fieldZ op).toNat with
  | 4, 0 => .ldi | 4, 1 => .cpi | 4, 2 => .ini | 4, 3 => .outi
  | 5, 0 => .ldd | 5, 1 => .cpd | 5, 2 => .ind | 5, 3 => .outd
  | 6, 0 => .ldir | 6, 1 => .cpir | 6, 2 => .inir | 6, 3 => .otir
  | 7, 0 => .lddr | 7, 1 => .cpdr | 7, 2 => .indr | 7, 3 => .otdr
  | _, _ => .noni op

/-- The ED map (30_encoding.md R114, R115). -/
def decodeEd (op b2 b3 : Byte) : Instr :=
  match (fieldX op).toNat with
  | 1 => decodeEdX1 op b2 b3
  | 2 => decodeEdX2 op
  | _ => .noni op

/-- The opcodes a DD or FD byte affects (30_encoding.md R111), 0xCB among them. -/
def affected (op : Byte) : Bool :=
  let x := (fieldX op).toNat
  let y := (fieldY op).toNat
  let z := (fieldZ op).toNat
  let p := (fieldP op).toNat
  op == 0xCB
    || (x == 1 && op != 0x76 && ((y == 4 || y == 5 || y == 6) || (z == 4 || z == 5 || z == 6)))
    || (x == 2 && (z == 4 || z == 5 || z == 6))
    || (x == 0 && z == 1 && (fieldQ op || p == 2))
    || (x == 0 && (z == 2 || z == 3) && p == 2)
    || (x == 0 && (z == 4 || z == 5 || z == 6) && (y == 4 || y == 5 || y == 6))
    || (op == 0xE1 || op == 0xE3 || op == 0xE5 || op == 0xE9 || op == 0xF9)

/-- The DD and FD map, x = 0 (30_encoding.md R110); `b2`, `b3` are the bytes after the opcode. -/
def decodeXyX0 (fd : Bool) (op b2 b3 : Byte) : Instr :=
  let y := fieldY op
  match (fieldZ op).toNat with
  | 1 => if fieldQ op then byIndex fd (.addIxPp (idxPairOfCode (fieldP op))) (.addIyRr (idxPairOfCode (fieldP op)))
    else byIndex fd (.ldIxNn (joinBytes b3 b2)) (.ldIyNn (joinBytes b3 b2))
  | 2 => if fieldQ op then byIndex fd (.ldIxMem (joinBytes b3 b2)) (.ldIyMem (joinBytes b3 b2))
    else byIndex fd (.ldMemIx (joinBytes b3 b2)) (.ldMemIy (joinBytes b3 b2))
  | 3 => if fieldQ op then byIndex fd .decIx .decIy else byIndex fd .incIx .incIy
  | 4 => match halfOfCode y with
    | some g => byIndex fd (.incIxHalf g) (.incIyHalf g)
    | none => byIndex fd (.incMemIx b2) (.incMemIy b2)
  | 5 => match halfOfCode y with
    | some g => byIndex fd (.decIxHalf g) (.decIyHalf g)
    | none => byIndex fd (.decMemIx b2) (.decMemIy b2)
  | _ => match halfOfCode y with
    | some g => byIndex fd (.ldIxHalfN g b2) (.ldIyHalfN g b2)
    | none => byIndex fd (.ldIxN b2 b3) (.ldIyN b2 b3)

/-- The DD and FD map, x = 1 (30_encoding.md R110 items 1 and 2): beside a memory operand H and L stay H and L, and
otherwise they name the halves of the index register. -/
def decodeXyX1 (fd : Bool) (op b2 : Byte) : Instr :=
  let y := fieldY op
  let z := fieldZ op
  match reg8OfCode y, reg8OfCode z with
  | some dst, none => byIndex fd (.ldRIx dst b2) (.ldRIy dst b2)
  | none, some src => byIndex fd (.ldIxR b2 src) (.ldIyR b2 src)
  | some dst, some src =>
    match halfOfCode y, halfOfCode z with
    | some g, some h => byIndex fd (.ldIxHalfHalf g h) (.ldIyHalfHalf g h)
    | some g, none => byIndex fd (.ldIxHalfR g src) (.ldIyHalfR g src)
    | none, some h => byIndex fd (.ldRIxHalf dst h) (.ldRIyHalf dst h)
    | none, none => .prefixIgnored fd
  | none, none => .prefixIgnored fd

/-- The DD and FD map for an affected opcode other than 0xCB (30_encoding.md R110, R111). -/
def decodeXy (fd : Bool) (op b2 b3 : Byte) : Instr :=
  match (fieldX op).toNat with
  | 0 => decodeXyX0 fd op b2 b3
  | 1 => decodeXyX1 fd op b2
  | 2 => match halfOfCode (fieldZ op) with
    | some g => aluHalf fd (fieldY op) g
    | none => aluMemXy fd (fieldY op) b2
  | _ => match (fieldY op).toNat, (fieldZ op).toNat with
    | 4, 1 => byIndex fd .popIx .popIy
    | 4, 3 => byIndex fd .exSpIx .exSpIy
    | 4, 5 => byIndex fd .pushIx .pushIy
    | 5, 1 => byIndex fd .jpIx .jpIy
    | _, _ => byIndex fd .ldSpIx .ldSpIy

/-- The DD CB and FD CB map: the displacement comes before the opcode (30_encoding.md R113). -/
def decodeXyCb (fd : Bool) (d op : Byte) : Instr :=
  let y := fieldY op
  let z := reg8OfCode (fieldZ op)
  match (fieldX op).toNat with
  | 0 => rotMemXy fd y d z
  | 1 => byIndex fd (.bitMemIx y d (fieldZ op)) (.bitMemIy y d (fieldZ op))
  | 2 => byIndex fd (.resMemIx y d z) (.resMemIy y d z)
  | _ => byIndex fd (.setMemIx y d z) (.setMemIy y d z)

/-- A DD or FD byte with what follows it: the indexed-bit map, an affected opcode, or the one-byte step that ignores
it (30_encoding.md R110 to R113). -/
def decodeIndex (fd : Bool) (b1 b2 b3 : Byte) : Instr :=
  if b1 = 0xCB then decodeXyCb fd b2 b3
  else if affected b1 then decodeXy fd b1 b2 b3
  else .prefixIgnored fd

/-- The instruction at the first of four consecutive bytes: total, every byte sequence selects exactly one
(30_encoding.md R116). Bytes the instruction does not have are not looked at. -/
def decodeBytes (b0 b1 b2 b3 : Byte) : Instr :=
  if b0 = 0xCB then decodeCb b1
  else if b0 = 0xED then decodeEd b1 b2 b3
  else if b0 = 0xDD then decodeIndex false b1 b2 b3
  else if b0 = 0xFD then decodeIndex true b1 b2 b3
  else decodeBase b0 b1 b2

/-! ### Lengths (30_encoding.md R103) -/

/-- `baselen(op)` (R103). -/
def baseLength (op : Byte) : Nat :=
  let y := (fieldY op).toNat
  match (fieldX op).toNat, (fieldZ op).toNat with
  | 0, 0 => if y ≤ 1 then 1 else 2
  | 0, 1 => if fieldQ op then 1 else 3
  | 0, 2 => if (fieldP op).toNat ≤ 1 then 1 else 3
  | 0, 6 => 2
  | 3, 2 => 3
  | 3, 4 => 3
  | 3, 3 => if y = 0 then 3 else if y = 2 ∨ y = 3 then 2 else 1
  | 3, 5 => if fieldQ op then 3 else 1
  | 3, 6 => 2
  | _, _ => 1

/-- Whether an affected opcode uses `(HL)`, hence a displacement, under DD or FD (R103, R110 item 1). -/
def usesMemHl (op : Byte) : Bool :=
  let x := (fieldX op).toNat
  let y := (fieldY op).toNat
  let z := (fieldZ op).toNat
  (x == 1 && (y == 6 || z == 6)) || (x == 2 && z == 6) || (x == 0 && (z == 4 || z == 5 || z == 6) && y == 6)

/-- `len(b0, b1)`: the length of the instruction that starts with these two bytes (R103). -/
def lengthOf (b0 b1 : Byte) : Nat :=
  if b0 = 0xCB then 2
  else if b0 = 0xED then
    (if fieldX b1 = 1 ∧ fieldZ b1 = 3 then 4 else 2)
  else if b0 = 0xDD ∨ b0 = 0xFD then
    (if b1 = 0xCB then 4
    else if affected b1 = false then 1
    else if b1 = 0x36 then 4
    else if usesMemHl b1 then 3
    else 1 + baseLength b1)
  else baseLength b0

/-- Why a byte list decodes to nothing. The only reason is a list that ends inside the instruction: no encoding is
illegal (30_encoding.md R117). -/
inductive DecodeError where
  /-- The list ends before the instruction does. -/
  | needsMoreBytes
  deriving DecidableEq, Repr

/-- The first instruction of a byte list, with the rest of the list. -/
def decode (bs : List Byte) : Except DecodeError (Instr × List Byte) :=
  let b0 := bs.getD 0 0
  let b1 := bs.getD 1 0
  let needsSecond := b0 = 0xDD ∨ b0 = 0xFD ∨ b0 = 0xED
  if bs = [] ∨ (needsSecond ∧ bs.length < 2) ∨ bs.length < lengthOf b0 b1 then .error .needsMoreBytes
  else .ok (decodeBytes b0 b1 (bs.getD 2 0) (bs.getD 3 0), bs.drop (lengthOf b0 b1))

/-! ### The encoder -/

/-- The bytes of an instruction, row by row from the encodings of spec/opcode_table.json (30_encoding.md R101 to R115):
the fixed bits written out, each field in its place. -/
def encode : Instr → List Byte
  | .ldRR dst src => [0b01#2 ++ dst.code ++ src.code]
  | .ldRN dst n => [0b00#2 ++ dst.code ++ 0b110#3, n]
  | .ldRHl dst => [0b01#2 ++ dst.code ++ 0b110#3]
  | .ldRIx dst d => [0xDD, 0b01#2 ++ dst.code ++ 0b110#3, d]
  | .ldRIy dst d => [0xFD, 0b01#2 ++ dst.code ++ 0b110#3, d]
  | .ldHlR src => [0b01110#5 ++ src.code]
  | .ldIxR d src => [0xDD, 0b01110#5 ++ src.code, d]
  | .ldIyR d src => [0xFD, 0b01110#5 ++ src.code, d]
  | .ldHlN n => [0x36, n]
  | .ldIxN d n => [0xDD, 0x36, d, n]
  | .ldIyN d n => [0xFD, 0x36, d, n]
  | .ldABc => [0x0A]
  | .ldADe => [0x1A]
  | .ldANn nn => [0x3A, loByte nn, hiByte nn]
  | .ldBcA => [0x02]
  | .ldDeA => [0x12]
  | .ldNnA nn => [0x32, loByte nn, hiByte nn]
  | .ldAI => [0xED, 0x57]
  | .ldAR => [0xED, 0x5F]
  | .ldIA => [0xED, 0x47]
  | .ldRA => [0xED, 0x4F]
  | .ldRIxHalf dst g => [0xDD, 0b01#2 ++ dst.code ++ 0b10#2 ++ g.code]
  | .ldIxHalfR g src => [0xDD, 0b0110#4 ++ g.code ++ src.code]
  | .ldIxHalfHalf g h => [0xDD, 0b0110#4 ++ g.code ++ 0b10#2 ++ h.code]
  | .ldIxHalfN g n => [0xDD, 0b0010#4 ++ g.code ++ 0b110#3, n]
  | .ldRIyHalf dst g => [0xFD, 0b01#2 ++ dst.code ++ 0b10#2 ++ g.code]
  | .ldIyHalfR g src => [0xFD, 0b0110#4 ++ g.code ++ src.code]
  | .ldIyHalfHalf g h => [0xFD, 0b0110#4 ++ g.code ++ 0b10#2 ++ h.code]
  | .ldIyHalfN g n => [0xFD, 0b0010#4 ++ g.code ++ 0b110#3, n]
  | .ldDdNn dd nn => [0b00#2 ++ dd.code ++ 0b0001#4, loByte nn, hiByte nn]
  | .ldIxNn nn => [0xDD, 0x21, loByte nn, hiByte nn]
  | .ldIyNn nn => [0xFD, 0x21, loByte nn, hiByte nn]
  | .ldHlMem nn => [0x2A, loByte nn, hiByte nn]
  | .ldDdMem dd nn => [0xED, 0b01#2 ++ dd.code ++ 0b1011#4, loByte nn, hiByte nn]
  | .ldIxMem nn => [0xDD, 0x2A, loByte nn, hiByte nn]
  | .ldIyMem nn => [0xFD, 0x2A, loByte nn, hiByte nn]
  | .ldMemHl nn => [0x22, loByte nn, hiByte nn]
  | .ldMemDd nn dd => [0xED, 0b01#2 ++ dd.code ++ 0b0011#4, loByte nn, hiByte nn]
  | .ldMemIx nn => [0xDD, 0x22, loByte nn, hiByte nn]
  | .ldMemIy nn => [0xFD, 0x22, loByte nn, hiByte nn]
  | .ldSpHl => [0xF9]
  | .ldSpIx => [0xDD, 0xF9]
  | .ldSpIy => [0xFD, 0xF9]
  | .pushQq qq => [0b11#2 ++ qq.code ++ 0b0101#4]
  | .pushIx => [0xDD, 0xE5]
  | .pushIy => [0xFD, 0xE5]
  | .popQq qq => [0b11#2 ++ qq.code ++ 0b0001#4]
  | .popIx => [0xDD, 0xE1]
  | .popIy => [0xFD, 0xE1]
  | .exDeHl => [0xEB]
  | .exAfAf => [0x08]
  | .exx => [0xD9]
  | .exSpHl => [0xE3]
  | .exSpIx => [0xDD, 0xE3]
  | .exSpIy => [0xFD, 0xE3]
  | .ldi => [0xED, 0xA0]
  | .ldir => [0xED, 0xB0]
  | .ldd => [0xED, 0xA8]
  | .lddr => [0xED, 0xB8]
  | .cpi => [0xED, 0xA1]
  | .cpir => [0xED, 0xB1]
  | .cpd => [0xED, 0xA9]
  | .cpdr => [0xED, 0xB9]
  | .addR src => [0b10000#5 ++ src.code]
  | .addN n => [0xC6, n]
  | .addMemHl => [0x86]
  | .addMemIx d => [0xDD, 0x86, d]
  | .addMemIy d => [0xFD, 0x86, d]
  | .addIxHalf g => [0xDD, 0b1000010#7 ++ g.code]
  | .addIyHalf g => [0xFD, 0b1000010#7 ++ g.code]
  | .adcR src => [0b10001#5 ++ src.code]
  | .adcN n => [0xCE, n]
  | .adcMemHl => [0x8E]
  | .adcMemIx d => [0xDD, 0x8E, d]
  | .adcMemIy d => [0xFD, 0x8E, d]
  | .adcIxHalf g => [0xDD, 0b1000110#7 ++ g.code]
  | .adcIyHalf g => [0xFD, 0b1000110#7 ++ g.code]
  | .subR src => [0b10010#5 ++ src.code]
  | .subN n => [0xD6, n]
  | .subMemHl => [0x96]
  | .subMemIx d => [0xDD, 0x96, d]
  | .subMemIy d => [0xFD, 0x96, d]
  | .subIxHalf g => [0xDD, 0b1001010#7 ++ g.code]
  | .subIyHalf g => [0xFD, 0b1001010#7 ++ g.code]
  | .sbcR src => [0b10011#5 ++ src.code]
  | .sbcN n => [0xDE, n]
  | .sbcMemHl => [0x9E]
  | .sbcMemIx d => [0xDD, 0x9E, d]
  | .sbcMemIy d => [0xFD, 0x9E, d]
  | .sbcIxHalf g => [0xDD, 0b1001110#7 ++ g.code]
  | .sbcIyHalf g => [0xFD, 0b1001110#7 ++ g.code]
  | .andR src => [0b10100#5 ++ src.code]
  | .andN n => [0xE6, n]
  | .andMemHl => [0xA6]
  | .andMemIx d => [0xDD, 0xA6, d]
  | .andMemIy d => [0xFD, 0xA6, d]
  | .andIxHalf g => [0xDD, 0b1010010#7 ++ g.code]
  | .andIyHalf g => [0xFD, 0b1010010#7 ++ g.code]
  | .orR src => [0b10110#5 ++ src.code]
  | .orN n => [0xF6, n]
  | .orMemHl => [0xB6]
  | .orMemIx d => [0xDD, 0xB6, d]
  | .orMemIy d => [0xFD, 0xB6, d]
  | .orIxHalf g => [0xDD, 0b1011010#7 ++ g.code]
  | .orIyHalf g => [0xFD, 0b1011010#7 ++ g.code]
  | .xorR src => [0b10101#5 ++ src.code]
  | .xorN n => [0xEE, n]
  | .xorMemHl => [0xAE]
  | .xorMemIx d => [0xDD, 0xAE, d]
  | .xorMemIy d => [0xFD, 0xAE, d]
  | .xorIxHalf g => [0xDD, 0b1010110#7 ++ g.code]
  | .xorIyHalf g => [0xFD, 0b1010110#7 ++ g.code]
  | .cpR src => [0b10111#5 ++ src.code]
  | .cpN n => [0xFE, n]
  | .cpMemHl => [0xBE]
  | .cpMemIx d => [0xDD, 0xBE, d]
  | .cpMemIy d => [0xFD, 0xBE, d]
  | .cpIxHalf g => [0xDD, 0b1011110#7 ++ g.code]
  | .cpIyHalf g => [0xFD, 0b1011110#7 ++ g.code]
  | .incR dst => [0b00#2 ++ dst.code ++ 0b100#3]
  | .incMemHl => [0x34]
  | .incMemIx d => [0xDD, 0x34, d]
  | .incMemIy d => [0xFD, 0x34, d]
  | .incIxHalf g => [0xDD, 0b0010#4 ++ g.code ++ 0b100#3]
  | .incIyHalf g => [0xFD, 0b0010#4 ++ g.code ++ 0b100#3]
  | .decR dst => [0b00#2 ++ dst.code ++ 0b101#3]
  | .decMemHl => [0x35]
  | .decMemIx d => [0xDD, 0x35, d]
  | .decMemIy d => [0xFD, 0x35, d]
  | .decIxHalf g => [0xDD, 0b0010#4 ++ g.code ++ 0b101#3]
  | .decIyHalf g => [0xFD, 0b0010#4 ++ g.code ++ 0b101#3]
  | .daa => [0x27]
  | .cpl => [0x2F]
  | .neg m => [0xED, 0b01#2 ++ m ++ 0b100#3]
  | .ccf => [0x3F]
  | .scf => [0x37]
  | .nop => [0x00]
  | .halt => [0x76]
  | .di => [0xF3]
  | .ei => [0xFB]
  | .im0 m k => [0xED, 0b01#2 ++ BitVec.ofBool m ++ 0b0#1 ++ BitVec.ofBool k ++ 0b110#3]
  | .im1 m => [0xED, 0b01#2 ++ BitVec.ofBool m ++ 0b10110#5]
  | .im2 m => [0xED, 0b01#2 ++ BitVec.ofBool m ++ 0b11110#5]
  | .noni op => [0xED, op]
  | .prefixIgnored fd => [0b11#2 ++ BitVec.ofBool fd ++ 0b11101#5]
  | .addHlSs ss => [0b00#2 ++ ss.code ++ 0b1001#4]
  | .adcHlSs ss => [0xED, 0b01#2 ++ ss.code ++ 0b1010#4]
  | .sbcHlSs ss => [0xED, 0b01#2 ++ ss.code ++ 0b0010#4]
  | .addIxPp pp => [0xDD, 0b00#2 ++ pp.code ++ 0b1001#4]
  | .addIyRr rr => [0xFD, 0b00#2 ++ rr.code ++ 0b1001#4]
  | .incSs ss => [0b00#2 ++ ss.code ++ 0b0011#4]
  | .incIx => [0xDD, 0x23]
  | .incIy => [0xFD, 0x23]
  | .decSs ss => [0b00#2 ++ ss.code ++ 0b1011#4]
  | .decIx => [0xDD, 0x2B]
  | .decIy => [0xFD, 0x2B]
  | .rlca => [0x07]
  | .rla => [0x17]
  | .rrca => [0x0F]
  | .rra => [0x1F]
  | .rlcR dst => [0xCB, 0b00000#5 ++ dst.code]
  | .rlcMemHl => [0xCB, 0x06]
  | .rlcMemIx d z => [0xDD, 0xCB, d, 0b00000#5 ++ copyCode z]
  | .rlcMemIy d z => [0xFD, 0xCB, d, 0b00000#5 ++ copyCode z]
  | .rlR dst => [0xCB, 0b00010#5 ++ dst.code]
  | .rlMemHl => [0xCB, 0x16]
  | .rlMemIx d z => [0xDD, 0xCB, d, 0b00010#5 ++ copyCode z]
  | .rlMemIy d z => [0xFD, 0xCB, d, 0b00010#5 ++ copyCode z]
  | .rrcR dst => [0xCB, 0b00001#5 ++ dst.code]
  | .rrcMemHl => [0xCB, 0x0E]
  | .rrcMemIx d z => [0xDD, 0xCB, d, 0b00001#5 ++ copyCode z]
  | .rrcMemIy d z => [0xFD, 0xCB, d, 0b00001#5 ++ copyCode z]
  | .rrR dst => [0xCB, 0b00011#5 ++ dst.code]
  | .rrMemHl => [0xCB, 0x1E]
  | .rrMemIx d z => [0xDD, 0xCB, d, 0b00011#5 ++ copyCode z]
  | .rrMemIy d z => [0xFD, 0xCB, d, 0b00011#5 ++ copyCode z]
  | .slaR dst => [0xCB, 0b00100#5 ++ dst.code]
  | .slaMemHl => [0xCB, 0x26]
  | .slaMemIx d z => [0xDD, 0xCB, d, 0b00100#5 ++ copyCode z]
  | .slaMemIy d z => [0xFD, 0xCB, d, 0b00100#5 ++ copyCode z]
  | .sraR dst => [0xCB, 0b00101#5 ++ dst.code]
  | .sraMemHl => [0xCB, 0x2E]
  | .sraMemIx d z => [0xDD, 0xCB, d, 0b00101#5 ++ copyCode z]
  | .sraMemIy d z => [0xFD, 0xCB, d, 0b00101#5 ++ copyCode z]
  | .srlR dst => [0xCB, 0b00111#5 ++ dst.code]
  | .srlMemHl => [0xCB, 0x3E]
  | .srlMemIx d z => [0xDD, 0xCB, d, 0b00111#5 ++ copyCode z]
  | .srlMemIy d z => [0xFD, 0xCB, d, 0b00111#5 ++ copyCode z]
  | .sllR dst => [0xCB, 0b00110#5 ++ dst.code]
  | .sllMemHl => [0xCB, 0x36]
  | .sllMemIx d z => [0xDD, 0xCB, d, 0b00110#5 ++ copyCode z]
  | .sllMemIy d z => [0xFD, 0xCB, d, 0b00110#5 ++ copyCode z]
  | .rld => [0xED, 0x6F]
  | .rrd => [0xED, 0x67]
  | .bitR b src => [0xCB, 0b01#2 ++ b ++ src.code]
  | .bitMemHl b => [0xCB, 0b01#2 ++ b ++ 0b110#3]
  | .bitMemIx b d j => [0xDD, 0xCB, d, 0b01#2 ++ b ++ j]
  | .bitMemIy b d j => [0xFD, 0xCB, d, 0b01#2 ++ b ++ j]
  | .setR b dst => [0xCB, 0b11#2 ++ b ++ dst.code]
  | .setMemHl b => [0xCB, 0b11#2 ++ b ++ 0b110#3]
  | .setMemIx b d z => [0xDD, 0xCB, d, 0b11#2 ++ b ++ copyCode z]
  | .setMemIy b d z => [0xFD, 0xCB, d, 0b11#2 ++ b ++ copyCode z]
  | .resR b dst => [0xCB, 0b10#2 ++ b ++ dst.code]
  | .resMemHl b => [0xCB, 0b10#2 ++ b ++ 0b110#3]
  | .resMemIx b d z => [0xDD, 0xCB, d, 0b10#2 ++ b ++ copyCode z]
  | .resMemIy b d z => [0xFD, 0xCB, d, 0b10#2 ++ b ++ copyCode z]
  | .jpNn nn => [0xC3, loByte nn, hiByte nn]
  | .jpCc cc nn => [0b11#2 ++ cc.code ++ 0b010#3, loByte nn, hiByte nn]
  | .jr e => [0x18, e]
  | .jrCc cc e => [0b001#3 ++ cc.jrCode ++ 0b000#3, e]
  | .jpHl => [0xE9]
  | .jpIx => [0xDD, 0xE9]
  | .jpIy => [0xFD, 0xE9]
  | .djnz e => [0x10, e]
  | .callNn nn => [0xCD, loByte nn, hiByte nn]
  | .callCc cc nn => [0b11#2 ++ cc.code ++ 0b100#3, loByte nn, hiByte nn]
  | .ret => [0xC9]
  | .retCc cc => [0b11#2 ++ cc.code ++ 0b000#3]
  | .reti => [0xED, 0x4D]
  | .retn m => [0xED, 0b01#2 ++ m ++ 0b101#3]
  | .rst t => [0b11#2 ++ t ++ 0b111#3]
  | .inAN n => [0xDB, n]
  | .inRC dst => [0xED, 0b01#2 ++ dst.code ++ 0b000#3]
  | .inC => [0xED, 0x70]
  | .ini => [0xED, 0xA2]
  | .inir => [0xED, 0xB2]
  | .ind => [0xED, 0xAA]
  | .indr => [0xED, 0xBA]
  | .outNA n => [0xD3, n]
  | .outCR src => [0xED, 0b01#2 ++ src.code ++ 0b001#3]
  | .outC0 => [0xED, 0x71]
  | .outi => [0xED, 0xA3]
  | .otir => [0xED, 0xB3]
  | .outd => [0xED, 0xAB]
  | .otdr => [0xED, 0xBB]

/-- The length of an instruction in bytes (30_encoding.md R101): how far PC advances (10_state.md R28). -/
def instrLength (i : Instr) : Nat := (encode i).length

/-- The opcode-fetch cycles of an instruction, each one increment of R (30_encoding.md R131): two when it starts with
CB, DD, ED or FD and has more bytes, one otherwise (an ignored DD or FD byte has no more). -/
def fetchCycles (i : Instr) : Nat :=
  match encode i with
  | b0 :: _ :: _ => if b0 = 0xCB ∨ b0 = 0xDD ∨ b0 = 0xED ∨ b0 = 0xFD then 2 else 1
  | _ => 1

/-! ### The host's question -/

/-- The bytes of a table word (log entry 2): spec/opcode_table.json writes a row's match, mask and fixed bits as one
number with the FIRST byte most significant (CB 00 is 0xCB00), so byte k of `nbits` bits is at bit `nbits - 8 * (k + 1)`;
the bytes after the word's are 0. -/
def tableByte (nbits w k : Nat) : Byte :=
  if 8 * (k + 1) ≤ nbits then BitVec.ofNat 8 (w >>> (nbits - 8 * (k + 1))) else 0

/-- The instruction whose bits are `w`, numbered as spec/opcode_table.json numbers them (log entry 2). -/
def decodeTableWord (nbits w : Nat) : Option Instr :=
  some (decodeBytes (tableByte nbits w 0) (tableByte nbits w 1) (tableByte nbits w 2) (tableByte nbits w 3))

end Sys2Proof
end

