-- ==== Sys2Proof/Machine/Flags.lean ====
section
/-! DEFINITION. The flag register and every flag computation of the spec: 10_state.md R29 to R39, the decimal adjust
(44_control.md R420), the rotates and shifts (46_rotate_shift.md R470 to R474), the bit tests (47_bit.md R520), the
block instructions (42_exchange_block.md R307, R311; 49_io.md R580). Arithmetic is computed exactly in Nat or Int and
narrowed at the end. -/

namespace Sys2Proof.Machine

/-- The eight flags, bit 7 first (10_state.md R29). -/
structure Flags where
  s : Bool
  z : Bool
  y : Bool
  h : Bool
  x : Bool
  pv : Bool
  n : Bool
  c : Bool
  deriving DecidableEq, Repr

/-- The flags of a byte (R29, R30). -/
def Flags.ofByte (v : Byte) : Flags :=
  ⟨v.getLsbD 7, v.getLsbD 6, v.getLsbD 5, v.getLsbD 4, v.getLsbD 3, v.getLsbD 2, v.getLsbD 1, v.getLsbD 0⟩

/-- The byte of the flags (R29, R30). -/
def Flags.toByte (fl : Flags) : Byte :=
  BitVec.ofBool fl.s ++ BitVec.ofBool fl.z ++ BitVec.ofBool fl.y ++ BitVec.ofBool fl.h
    ++ BitVec.ofBool fl.x ++ BitVec.ofBool fl.pv ++ BitVec.ofBool fl.n ++ BitVec.ofBool fl.c

/-- A flag's name (R29). -/
inductive FlagName where
  | s | z | y | h | x | pv | n | c
  deriving DecidableEq, Repr

/-- The flag of that name. -/
def Flags.get (fl : Flags) (name : FlagName) : Bool :=
  match name with
  | .s => fl.s | .z => fl.z | .y => fl.y | .h => fl.h | .x => fl.x | .pv => fl.pv | .n => fl.n | .c => fl.c

/-- A bit as a number, the carry-in of an addition. -/
def bitNat (b : Bool) : Nat := if b then 1 else 0

/-- `v[b]` (10_state.md R48, `TestBit`). -/
def testBit (v : Byte) (b : Nat) : Bool := v.getLsbD b

/-- `v` with bit `b` replaced by `x` (10_state.md R48, `SetBit`). -/
def setBit (v : Byte) (b : Nat) (x : Bool) : Byte :=
  if x then v ||| (1#8 <<< b) else v &&& ~~~(1#8 <<< b)

/-- `Parity(r)`: the number of 1 bits is even (R32). -/
def parity (r : Byte) : Bool := ([0, 1, 2, 3, 4, 5, 6, 7].countP (fun k => r.getLsbD k)) % 2 == 0

/-! ### 8-bit arithmetic and logic (R33 to R37) -/

/-- `Add8(a, b, c)` (R33). -/
def add8 (a b : Byte) (c : Bool) : Byte × Flags :=
  let t := a.toNat + b.toNat + bitNat c
  let r := BitVec.ofNat 8 t
  (r, { s := r.getLsbD 7, z := r == 0, y := r.getLsbD 5,
        h := decide (a.toNat % 16 + b.toNat % 16 + bitNat c > 15), x := r.getLsbD 3,
        pv := a.getLsbD 7 == b.getLsbD 7 && r.getLsbD 7 != a.getLsbD 7,
        n := false, c := decide (t > 255) })

/-- `Sub8(a, b, c)` (R34). -/
def sub8 (a b : Byte) (c : Bool) : Byte × Flags :=
  let t := (a.toNat : Int) - (b.toNat : Int) - (bitNat c : Int)
  let r := BitVec.ofInt 8 t
  (r, { s := r.getLsbD 7, z := r == 0, y := r.getLsbD 5,
        h := decide (((a.toNat % 16 : Nat) : Int) - ((b.toNat % 16 : Nat) : Int) - (bitNat c : Int) < 0),
        x := r.getLsbD 3,
        pv := a.getLsbD 7 != b.getLsbD 7 && r.getLsbD 7 != a.getLsbD 7,
        n := true, c := decide (t < 0) })

/-- The logical class: S, Z, Y, X and PV from the result, N = C = 0, H as given (R35, R36). -/
def logicFlags (r : Byte) (h : Bool) : Flags :=
  { s := r.getLsbD 7, z := r == 0, y := r.getLsbD 5, h := h, x := r.getLsbD 3, pv := parity r, n := false, c := false }

/-- `And8(a, b)` (R35). -/
def and8 (a b : Byte) : Byte × Flags := (a &&& b, logicFlags (a &&& b) true)

/-- `Or8(a, b)` (R36). -/
def or8 (a b : Byte) : Byte × Flags := (a ||| b, logicFlags (a ||| b) false)

/-- `Xor8(a, b)` (R36). -/
def xor8 (a b : Byte) : Byte × Flags := (a ^^^ b, logicFlags (a ^^^ b) false)

/-- The flags of CP: Sub8's, with Y and X from the operand (43_alu8.md R389 to R395). -/
def cp8 (a v : Byte) : Flags := { (sub8 a v false).2 with y := v.getLsbD 5, x := v.getLsbD 3 }

/-- `Inc8(v)`, C kept from `old` (R37). -/
def inc8 (v : Byte) (old : Flags) : Byte × Flags :=
  let r := BitVec.ofNat 8 (v.toNat + 1)
  (r, { s := r.getLsbD 7, z := r == 0, y := r.getLsbD 5, h := v.toNat % 16 == 15, x := r.getLsbD 3,
        pv := v == 0x7F, n := false, c := old.c })

/-- `Dec8(v)`, C kept from `old` (R37). -/
def dec8 (v : Byte) (old : Flags) : Byte × Flags :=
  let r := BitVec.ofInt 8 ((v.toNat : Int) - 1)
  (r, { s := r.getLsbD 7, z := r == 0, y := r.getLsbD 5, h := v.toNat % 16 == 0, x := r.getLsbD 3,
        pv := v == 0x80, n := true, c := old.c })

/-! ### 16-bit arithmetic (R38) -/

/-- `Add16(a, b)`: H and C, and under the nmos profile N, Y and X (R38). -/
def add16 (profile : FlagsProfile) (a b : Word) (old : Flags) : Word × Flags :=
  let t := a.toNat + b.toNat
  let r := BitVec.ofNat 16 t
  let h := decide (a.toNat % 4096 + b.toNat % 4096 > 4095)
  let c := decide (t > 65535)
  match profile with
  | .source => (r, { old with h := h, c := c })
  | .nmos => (r, { old with h := h, c := c, n := false, y := r.getLsbD 13, x := r.getLsbD 11 })

/-- `Adc16(a, b, c)` (R38). -/
def adc16 (a b : Word) (c : Bool) : Word × Flags :=
  let t := a.toNat + b.toNat + bitNat c
  let r := BitVec.ofNat 16 t
  (r, { s := r.getLsbD 15, z := r == 0, y := r.getLsbD 13,
        h := decide (a.toNat % 4096 + b.toNat % 4096 + bitNat c > 4095), x := r.getLsbD 11,
        pv := a.getLsbD 15 == b.getLsbD 15 && r.getLsbD 15 != a.getLsbD 15,
        n := false, c := decide (t > 65535) })

/-- `Sbc16(a, b, c)` (R38). -/
def sbc16 (a b : Word) (c : Bool) : Word × Flags :=
  let t := (a.toNat : Int) - (b.toNat : Int) - (bitNat c : Int)
  let r := BitVec.ofInt 16 t
  (r, { s := r.getLsbD 15, z := r == 0, y := r.getLsbD 13,
        h := decide (((a.toNat % 4096 : Nat) : Int) - ((b.toNat % 4096 : Nat) : Int) - (bitNat c : Int) < 0),
        x := r.getLsbD 11,
        pv := a.getLsbD 15 != b.getLsbD 15 && r.getLsbD 15 != a.getLsbD 15,
        n := true, c := decide (t < 0) })

/-! ### Rotates and shifts (R39; 46_rotate_shift.md R470 to R474) -/

/-- `ShiftFlags(r, c)` (R39). -/
def shiftFlags (r : Byte) (c : Bool) : Flags :=
  { s := r.getLsbD 7, z := r == 0, y := r.getLsbD 5, h := false, x := r.getLsbD 3, pv := parity r, n := false, c := c }

/-- The eight rotate and shift operations, in the order of the y field (30_encoding.md R106; R474). -/
inductive RotOp where
  | rlc | rrc | rl | rr | sla | sra | sll | srl
  deriving DecidableEq, Repr

/-- `v[6:0] : low`. -/
def shiftLeft (v : Byte) (low : Bool) : Byte := v.extractLsb' 0 7 ++ BitVec.ofBool low

/-- `high : v[7:1]`. -/
def shiftRight (v : Byte) (high : Bool) : Byte := BitVec.ofBool high ++ v.extractLsb' 1 7

/-- `Rot(op, v, cin)`: the result and the bit shifted out (R474). -/
def rot (op : RotOp) (v : Byte) (cin : Bool) : Byte × Bool :=
  match op with
  | .rlc => (shiftLeft v (v.getLsbD 7), v.getLsbD 7)
  | .rrc => (shiftRight v (v.getLsbD 0), v.getLsbD 0)
  | .rl => (shiftLeft v cin, v.getLsbD 7)
  | .rr => (shiftRight v cin, v.getLsbD 0)
  | .sla => (shiftLeft v false, v.getLsbD 7)
  | .sra => (shiftRight v (v.getLsbD 7), v.getLsbD 0)
  | .sll => (shiftLeft v true, v.getLsbD 7)
  | .srl => (shiftRight v false, v.getLsbD 0)

/-- A CB rotate or shift of `v` with its flags (R474). -/
def rotate (op : RotOp) (v : Byte) (cin : Bool) : Byte × Flags :=
  let (res, c) := rot op v cin
  (res, shiftFlags res c)

/-- The flags of the four accumulator rotates: H = N = 0, C as given, S, Z, PV kept; Y and X kept under the source
profile, from the new A under the nmos profile (R470 to R473). -/
def accRotFlags (profile : FlagsProfile) (a : Byte) (c : Bool) (old : Flags) : Flags :=
  match profile with
  | .source => { old with h := false, n := false, c := c }
  | .nmos => { old with h := false, n := false, c := c, y := a.getLsbD 5, x := a.getLsbD 3 }

/-! ### Bit tests (47_bit.md R520 to R523) -/

/-- The flags of BIT b of `v`, with Y and X from bits 5 and 3 of `yx` (R520 to R523). -/
def bitFlags (b : BitVec 3) (v yx : Byte) (old : Flags) : Flags :=
  let t := testBit v b.toNat
  { s := b == 7 && t, z := !t, y := yx.getLsbD 5, h := true, x := yx.getLsbD 3, pv := !t, n := false, c := old.c }

/-! ### Decimal adjust and the accumulator and carry operations (44_control.md) -/

/-- DAA: the adjusted accumulator and the flags (R420). -/
def daaAdjust (a : Byte) (old : Flags) : Byte × Flags :=
  let lo := a.toNat % 16
  let diffLo : Byte := if old.h = true ∨ lo > 9 then 0x06 else 0x00
  let carry := decide (old.c = true ∨ a.toNat > 0x99)
  let diff : Byte := if carry then diffLo ||| 0x60 else diffLo
  let res := if old.n then BitVec.ofInt 8 ((a.toNat : Int) - (diff.toNat : Int))
    else BitVec.ofNat 8 (a.toNat + diff.toNat)
  let half := if old.n then old.h && decide (lo < 6) else decide (lo > 9)
  (res, { s := res.getLsbD 7, z := res == 0, y := res.getLsbD 5, h := half, x := res.getLsbD 3, pv := parity res,
          n := old.n, c := carry })

/-- The flags of CPL with the new A (R421). -/
def cplFlags (a : Byte) (old : Flags) : Flags :=
  { old with h := true, n := true, y := a.getLsbD 5, x := a.getLsbD 3 }

/-- The flags of CCF (R423). -/
def ccfFlags (a : Byte) (old : Flags) : Flags :=
  { old with h := old.c, n := false, c := !old.c, y := a.getLsbD 5, x := a.getLsbD 3 }

/-- The flags of SCF (R424). -/
def scfFlags (a : Byte) (old : Flags) : Flags :=
  { old with h := false, n := false, c := true, y := a.getLsbD 5, x := a.getLsbD 3 }

/-- The flags of LD A,I and LD A,R (40_load8.md R217, R218). -/
def loadIrFlags (v : Byte) (iff2 : Bool) (old : Flags) : Flags :=
  { s := v.getLsbD 7, z := v == 0, y := v.getLsbD 5, h := false, x := v.getLsbD 3, pv := iff2, n := false, c := old.c }

/-! ### Block instructions -/

/-- The flags of LDI and LDD: `v` the byte moved, `a` the accumulator, `bc` the counter after its decrement
(42_exchange_block.md R307). -/
def blockMoveFlags (v a : Byte) (bc : Word) (old : Flags) : Flags :=
  let k := BitVec.ofNat 8 (v.toNat + a.toNat)
  { old with h := false, n := false, pv := bc != 0, y := k.getLsbD 1, x := k.getLsbD 3 }

/-- The flags of CPI and CPD: `v` the byte compared, `a` the accumulator, `bc` the counter after its decrement
(42_exchange_block.md R311). -/
def blockCompareFlags (a v : Byte) (bc : Word) (old : Flags) : Flags :=
  let r := BitVec.ofInt 8 ((a.toNat : Int) - (v.toNat : Int))
  let h := decide (a.toNat % 16 < v.toNat % 16)
  let k := BitVec.ofInt 8 ((r.toNat : Int) - (bitNat h : Int))
  { s := r.getLsbD 7, z := r == 0, y := k.getLsbD 1, h := h, x := k.getLsbD 3, pv := bc != 0, n := true, c := old.c }

/-- `BlockIoFlags(v, k, B)`: `v` the byte moved, `k` the 9-bit sum, `b` the counter after its decrement (49_io.md
R580). -/
def blockIoFlags (v : Byte) (k : Nat) (b : Byte) : Flags :=
  { s := b.getLsbD 7, z := b == 0, y := b.getLsbD 5, h := decide (k > 255), x := b.getLsbD 3,
    pv := parity (BitVec.ofNat 8 (k % 8) ^^^ b), n := v.getLsbD 7, c := decide (k > 255) }

end Sys2Proof.Machine
end

