-- ==== Sys2Proof/Machine/State.lean ====
section
/-! DEFINITION. The state of the core (10_state.md R20), plain data; its value at creation (10_state.md R49); the
reasons an outcome can be something other than a next state. -/

namespace Sys2Proof.Machine

/-- One register bank: seven general registers and the Flag Register F (10_state.md R21). -/
structure Bank where
  a : Byte
  f : Byte
  b : Byte
  c : Byte
  d : Byte
  e : Byte
  h : Byte
  l : Byte
  deriving DecidableEq, Repr

/-- A bank at creation: every register 0x00 (10_state.md R49). -/
def Bank.zero : Bank := ⟨0, 0, 0, 0, 0, 0, 0, 0⟩

/-- The interrupt mode IM (10_state.md R44). -/
inductive IntMode where
  | im0 | im1 | im2
  deriving DecidableEq, Repr

/-- Memory as data: address and byte pairs, addresses strictly rising, no byte 0x00 listed; an address that is not
listed holds 0x00, the value every byte has at creation (10_state.md R49; log entry 6). `Memory.wf` says the form. -/
abbrev Memory := List Host.Cell

/-- I/O slots as data: port and byte pairs, ports strictly rising; a port that is not listed holds `none`
(10_state.md R46, R49). `slotsWf` says the form. -/
abbrev Slots := List Host.Cell

/-- The state vector (10_state.md R20), with the parameters fixed at creation (00_scope.md R5) and the model's own
draw counter. -/
structure State where
  /-- Bank 0, the main bank (R21). -/
  bank0 : Bank
  /-- Bank 1, the alternate bank (R21). -/
  bank1 : Bank
  /-- The selector `sel_af`: true when A and F name bank 1 (R22). -/
  selAf : Bool
  /-- The selector `sel_gp`: true when B, C, D, E, H, L name bank 1 (R22). -/
  selGp : Bool
  /-- IX (R26). -/
  ix : Word
  /-- IY (R26). -/
  iy : Word
  /-- The stack pointer (R27). -/
  sp : Word
  /-- The program counter (R28). -/
  pc : Word
  /-- The interrupt vector register I (R41). -/
  regI : Byte
  /-- The refresh register R (R42). -/
  regR : Byte
  /-- IFF1: maskable interrupts are enabled (R43). -/
  iff1 : Bool
  /-- IFF2: the save slot of IFF1 (R43). -/
  iff2 : Bool
  /-- The interrupt mode (R44). -/
  im : IntMode
  /-- The halt latch (R45). -/
  halted : Bool
  /-- The memory array (20_memory.md R70). -/
  mem : Memory
  /-- The ROM range, first and last address, or none (20_memory.md R74). -/
  rom : Option (Word × Word)
  /-- The output slots (R46). -/
  outSlots : Slots
  /-- The input slots (R46). -/
  inSlots : Slots
  /-- MEM_SIZE, the number of bytes of memory, from 1 to 65536 (20_memory.md R70). -/
  memSize : Nat
  /-- FLAGS_PROFILE (10_state.md R38; 46_rotate_shift.md section 1). -/
  flagsProfile : FlagsProfile
  /-- THE MODEL'S OWN: how many unstaged input reads have happened, the index of the next draw (log entry 1). -/
  draws : Nat
  deriving DecidableEq, Repr

/-- The core right after `create` with these parameters (10_state.md R49; 60_exceptions.md R661). DESIGN CHOICE (log entry
13): R49 gives `rom` = none at creation, while 00_scope.md R5 and R661 give `create` the parameter ROM_RANGE; the model's
`create` stores the range it is given, and with none it leaves the state of R49. Unsafe. -/
def State.create (memSize : Nat) (rom : Option (Word × Word)) (flagsProfile : FlagsProfile) : State :=
  { bank0 := Bank.zero, bank1 := Bank.zero, selAf := false, selGp := false,
    ix := 0, iy := 0, sp := 0, pc := 0, regI := 0, regR := 0,
    iff1 := false, iff2 := false, im := .im0, halted := false,
    mem := [], rom := rom, outSlots := [], inSlots := [],
    memSize := memSize, flagsProfile := flagsProfile, draws := 0 }

/-- The machine right after reset: creation is the only reset (70_reset_and_hazards.md R680), with the default
parameters (00_scope.md R5; log entry 3) and no ROM range (10_state.md R49). -/
def State.reset : State := State.create Config.defaultMemSize none Config.defaultFlagsProfile

/-- Why the machine stops with a fault. No instruction faults (60_exceptions.md R620). -/
inductive Fault where
  /-- Raised by the host operation `load` when the byte source cannot be read (20_memory.md R80). DESIGN CHOICE (log entry
  9): the spec says that `load` fails with io-error and lists no outcome for it. Safe: memory is
  unchanged and the spec names this failure. -/
  | ioError
  deriving DecidableEq, Repr

/-- Why an operation is refused. No instruction is refused (30_encoding.md R134). -/
inductive Refusal where
  /-- Raised by an arm of `exec` whose instruction has no meaning yet, with its mnemonic. Safe: nothing is claimed
  of it. No arm raises it now. -/
  | notModelled (mnemonic : String)
  /-- Raised by the host operation `interrupt` in mode 0 for a data byte that is not a one-byte instruction: the
  spec's `refuse im0-data` (60_exceptions.md R627). Safe: the spec ends the event so. -/
  | im0Data (data : Byte)
  /-- Raised by the host operation `load` when the bytes do not fit: the spec's `load-overflow` (20_memory.md R80).
  Safe: memory is unchanged and the spec names this failure. -/
  | loadOverflow
  deriving DecidableEq, Repr

/-- What a meaning or a step answers. -/
abbrev Result := Host.Outcome State Fault Refusal

end Sys2Proof.Machine
end

