-- ==== Sys2Proof/Machine/Memory.lean ====
section
/-! DEFINITION. Lists of cells in canonical form: the memory array and the I/O slots as data (20_memory.md R70;
10_state.md R46). -/

namespace Sys2Proof.Machine

/-- The byte listed at key `a`, if any. -/
def cellsGet (m : List Host.Cell) (a : Nat) : Option Byte :=
  match m with
  | [] => none
  | (k, v) :: rest => if k = a then some v else cellsGet rest a

/-- `m` with the byte at key `a` set to `v`, in its place among rising keys. -/
def cellsPut (m : List Host.Cell) (a : Nat) (v : Byte) : List Host.Cell :=
  match m with
  | [] => [(a, v)]
  | (k, w) :: rest =>
    if a < k then (a, v) :: (k, w) :: rest
    else if a = k then (a, v) :: rest
    else (k, w) :: cellsPut rest a v

/-- `m` without an entry at key `a`. -/
def cellsDrop (m : List Host.Cell) (a : Nat) : List Host.Cell :=
  match m with
  | [] => []
  | (k, w) :: rest => if k = a then cellsDrop rest a else (k, w) :: cellsDrop rest a

/-- The keys rise strictly, so there are no repeats. -/
def cellsSorted (m : List Host.Cell) : Bool :=
  match m with
  | [] => true
  | (k, _) :: rest => rest.all (fun cell => k < cell.1) && cellsSorted rest

/-- What an address that is not listed reads as: 0x00, the value of every byte at creation (10_state.md R49). -/
def Memory.unlisted : Byte := 0

/-- The byte of the array at address `a`. -/
def Memory.get (m : Memory) (a : Nat) : Byte := (cellsGet m a).getD Memory.unlisted

/-- The array with byte `a` set to `v`: the value an unlisted address reads as is not listed. -/
def Memory.put (m : Memory) (a : Nat) (v : Byte) : Memory :=
  if v = Memory.unlisted then cellsDrop m a else cellsPut m a v

/-- The canonical form: addresses strictly rising, and no listed byte equal to what an unlisted address reads as. -/
def Memory.wf (m : Memory) : Bool := cellsSorted m && m.all (fun cell => cell.2 != Memory.unlisted)

/-- Every listed address is below `n`: the array has `n` bytes (20_memory.md R70). -/
def Memory.below (m : Memory) (n : Nat) : Bool := m.all (fun cell => cell.1 < n)

/-- `load`'s raw copy of bytes to consecutive addresses from `origin` up (20_memory.md R80). -/
def Memory.putAll (m : Memory) (origin : Nat) (bytes : List Byte) : Memory :=
  match bytes with
  | [] => m
  | v :: rest => Memory.putAll (m.put origin v) (origin + 1) rest

/-- The canonical form of I/O slots: 8-bit port numbers, strictly rising (10_state.md R46). -/
def slotsWf (m : Slots) : Bool := cellsSorted m && m.all (fun cell => cell.1 < 256)

end Sys2Proof.Machine
end

