-- ==== Sys2Proof/Machine/Ops.lean ====
section
/-! DEFINITION. The named operations over registers, memory, the stack, the ports and R (10_state.md, 20_memory.md), and
the shared operations of taking an interrupt and returning from one (60_exceptions.md R624, R630, R634). Every meaning
reads and writes the state through these. -/

namespace Sys2Proof.Machine

/-! ### Registers (10_state.md R21 to R26) -/

/-- A general register of one bank (R21). -/
def Bank.get (k : Bank) (r : Reg8) : Byte :=
  match r with
  | .b => k.b | .c => k.c | .d => k.d | .e => k.e | .h => k.h | .l => k.l | .a => k.a

/-- A bank with one general register written (R21). -/
def Bank.set (k : Bank) (r : Reg8) (v : Byte) : Bank :=
  match r with
  | .b => { k with b := v } | .c => { k with c := v } | .d => { k with d := v } | .e => { k with e := v }
  | .h => { k with h := v } | .l => { k with l := v } | .a => { k with a := v }

/-- The selector a register name resolves through: `sel_af` for A, `sel_gp` for the other six (R22). -/
def State.selectorOf (s : State) (r : Reg8) : Bool :=
  match r with
  | .a => s.selAf
  | _ => s.selGp

/-- `x[r]`, the register of the active bank (R22). -/
def State.reg (s : State) (r : Reg8) : Byte := (if s.selectorOf r then s.bank1 else s.bank0).get r

/-- `x[r] <- v` (R22). -/
def State.setReg (s : State) (r : Reg8) (v : Byte) : State :=
  if s.selectorOf r then { s with bank1 := s.bank1.set r v } else { s with bank0 := s.bank0.set r v }

/-- The primed register, of the bank that is not active (R21, R22). -/
def State.altReg (s : State) (r : Reg8) : Byte := (if s.selectorOf r then s.bank0 else s.bank1).get r

/-- `x[F]` (R22). -/
def State.f (s : State) : Byte := if s.selAf then s.bank1.f else s.bank0.f

/-- `x[F] <- v` (R22). -/
def State.setF (s : State) (v : Byte) : State :=
  if s.selAf then { s with bank1 := { s.bank1 with f := v } } else { s with bank0 := { s.bank0 with f := v } }

/-- `F'` (R22). -/
def State.altF (s : State) : Byte := if s.selAf then s.bank0.f else s.bank1.f

/-- F as flags (R29). -/
def State.flags (s : State) : Flags := Flags.ofByte s.f

/-- F written from flags (R29, R30). -/
def State.setFlags (s : State) (fl : Flags) : State := s.setF fl.toByte

/-- One flag of F (R29). -/
def State.flag (s : State) (name : FlagName) : Bool := s.flags.get name

/-- `BC = B:C` (R24). -/
def State.bc (s : State) : Word := joinBytes (s.reg .b) (s.reg .c)
/-- `DE = D:E` (R24). -/
def State.de (s : State) : Word := joinBytes (s.reg .d) (s.reg .e)
/-- `HL = H:L` (R24). -/
def State.hl (s : State) : Word := joinBytes (s.reg .h) (s.reg .l)
/-- `AF = A:F` (R24). -/
def State.af (s : State) : Word := joinBytes (s.reg .a) s.f

/-- `BC <- v` (R24). -/
def State.setBc (s : State) (v : Word) : State := (s.setReg .b (hiByte v)).setReg .c (loByte v)
/-- `DE <- v` (R24). -/
def State.setDe (s : State) (v : Word) : State := (s.setReg .d (hiByte v)).setReg .e (loByte v)
/-- `HL <- v` (R24). -/
def State.setHl (s : State) (v : Word) : State := (s.setReg .h (hiByte v)).setReg .l (loByte v)
/-- `AF <- v` (R24). -/
def State.setAf (s : State) (v : Word) : State := (s.setReg .a (hiByte v)).setF (loByte v)

/-- `IX <- v` (R26). -/
def State.setIx (s : State) (v : Word) : State := { s with ix := v }
/-- `IY <- v` (R26). -/
def State.setIy (s : State) (v : Word) : State := { s with iy := v }
/-- `SP <- v` (R27). -/
def State.setSp (s : State) (v : Word) : State := { s with sp := v }
/-- `PC <- v` (R28). -/
def State.setPc (s : State) (v : Word) : State := { s with pc := v }
/-- `I <- v` (R41). -/
def State.setI (s : State) (v : Byte) : State := { s with regI := v }
/-- `R <- v`, all eight bits (R42). -/
def State.setR (s : State) (v : Byte) : State := { s with regR := v }
/-- IFF1 and IFF2 written (R43). -/
def State.setIff (s : State) (iff1 iff2 : Bool) : State := { s with iff1 := iff1, iff2 := iff2 }
/-- `IM <- m` (R44). -/
def State.setIm (s : State) (m : IntMode) : State := { s with im := m }
/-- `halted <- b` (R45). -/
def State.setHalted (s : State) (b : Bool) : State := { s with halted := b }
/-- `sel_af <- 1 - sel_af`: EX AF,AF' (R22). -/
def State.swapAf (s : State) : State := { s with selAf := !s.selAf }
/-- `sel_gp <- 1 - sel_gp`: EXX (R22). -/
def State.swapGp (s : State) : State := { s with selGp := !s.selGp }

/-- R after `n` increments: the low seven bits count modulo 128, bit 7 stays (R42). -/
def refreshAfter (r : Byte) (n : Nat) : Byte :=
  BitVec.ofBool (r.getLsbD 7) ++ BitVec.ofNat 7 (r.toNat % 128 + n)

/-- `n` opcode-fetch cycles (R42; 30_encoding.md R131). -/
def State.bumpR (s : State) (n : Nat) : State := { s with regR := refreshAfter s.regR n }

/-! ### Memory (20_memory.md R70 to R79) -/

/-- `MemRead(a, 1)`: past MEM_SIZE reads 0x00 (R72). -/
def State.readByte (s : State) (a : Word) : Byte := if a.toNat < s.memSize then s.mem.get a.toNat else 0

/-- The ROM range holds `a`, ends included (R74). -/
def State.inRom (s : State) (a : Word) : Bool :=
  match s.rom with
  | none => false
  | some (first, last) => decide (first.toNat ≤ a.toNat ∧ a.toNat ≤ last.toNat)

/-- A byte write at `a` takes effect: inside the array and outside the ROM range (R73). -/
def State.writable (s : State) (a : Word) : Bool := decide (a.toNat < s.memSize) && !s.inRom a

/-- `MemWrite(a, 1, v)`: dropped where `a` is not writable (R73). -/
def State.writeByte (s : State) (a : Word) (v : Byte) : State :=
  if s.writable a then { s with mem := s.mem.put a.toNat v } else s

/-- `MemRead(a, 2)`: low byte at `a`, high byte at `a + 1` modulo 65536 (R76). -/
def State.readWord (s : State) (a : Word) : Word := joinBytes (s.readByte (a + 1)) (s.readByte a)

/-- `MemWrite(a, 2, v)`: low byte at `a`, then high byte at `a + 1` modulo 65536 (R76). -/
def State.writeWord (s : State) (a v : Word) : State := (s.writeByte a (loByte v)).writeByte (a + 1) (hiByte v)

/-! ### The stack (20_memory.md R88, R89) -/

/-- One byte pushed: `SP <- SP - 1; MemWrite(SP, 1, v)` (R88). -/
def State.pushByte (s : State) (v : Byte) : State := (s.setSp (s.sp - 1)).writeByte (s.sp - 1) v

/-- `Push16(v)`: the high byte first, at the higher address (R88). -/
def State.push16 (s : State) (v : Word) : State := (s.pushByte (hiByte v)).pushByte (loByte v)

/-- The word `Pop16()` returns (R89). -/
def State.top (s : State) : Word := joinBytes (s.readByte (s.sp + 1)) (s.readByte s.sp)

/-- The state `Pop16()` leaves: `SP <- SP + 2` (R89). -/
def State.dropTop (s : State) : State := s.setSp (s.sp + 2)

/-! ### The I/O space (20_memory.md R84 to R86; 10_state.md R46) -/

/-- `InSlot[q]`. -/
def State.inSlot (s : State) (q : Byte) : Option Byte := cellsGet s.inSlots q.toNat
/-- `OutSlot[q]`. -/
def State.outSlot (s : State) (q : Byte) : Option Byte := cellsGet s.outSlots q.toNat

/-- The value `IoRead(p)` returns: the staged byte of the slot `lo(p)`, or the next draw (R86; log entry 1). -/
def State.ioValue (s : State) (p : Word) : Byte := (s.inSlot (loByte p)).getD (Config.freeByte s.draws)

/-- The state `IoRead(p)` leaves: the slot keeps its byte, and an unstaged read takes one draw (R86; log entry 1). -/
def State.ioRead (s : State) (p : Word) : State :=
  match s.inSlot (loByte p) with
  | some _ => s
  | none => { s with draws := s.draws + 1 }

/-- `IoWrite(p, v)`: `OutSlot[lo(p)] <- v` (R85). -/
def State.ioWrite (s : State) (p : Word) (v : Byte) : State :=
  { s with outSlots := cellsPut s.outSlots (loByte p).toNat v }

/-! ### Jumps, calls, returns, and the repeat rule -/

/-- A call: `Push16(PC); PC <- target`, PC being the address to come back to (48_jump_call_return.md R548). -/
def State.call (s : State) (target : Word) : State := (s.push16 s.pc).setPc target

/-- A return: `PC <- Pop16()` (48_jump_call_return.md R550). -/
def State.ret (s : State) : State := s.dropTop.setPc s.top

/-- A relative jump: `PC <- (next + sext_16(e)) mod 65536`, PC being `next` (48_jump_call_return.md R542). -/
def State.jumpRelative (s : State) (e : Byte) : State := s.setPc (s.pc + sext16 e)

/-- The repeat rule of the two-byte block instructions: PC back to `pc0` when the condition holds
(42_exchange_block.md R306). -/
def State.repeatIf (s : State) (again : Bool) : State := if again then s.setPc (s.pc - 2) else s

/-! ### Taking an interrupt and returning from one (60_exceptions.md) -/

/-- What the acceptance of an INT and of an NMI share: the flip-flops as given, the halt latch cleared, one increment
of R (R624, R630, R631). -/
def State.accept (s : State) (iff1 iff2 : Bool) : State := ((s.setIff iff1 iff2).setHalted false).bumpR 1

/-- The common part of accepting a maskable interrupt (R624). -/
def State.acceptInt (s : State) : State := s.accept false false

/-- The mode 1 action: `Push16(PC); PC <- 0x0038` (R628). -/
def State.modeOneAction (s : State) : State := s.call 0x0038

/-- The mode 2 action: PC is pushed, then the handler's address is read from the table entry at `I : data` (R629). -/
def State.modeTwoAction (s : State) (data : Byte) : State :=
  let pushed := s.push16 s.pc
  pushed.setPc (pushed.readWord (joinBytes s.regI data))

/-- NMI: IFF1 saved in IFF2 and cleared, the common part, `Push16(PC); PC <- 0x0066` (R630). -/
def State.takeNmi (s : State) : State := (s.accept false s.iff1).call 0x0066

/-- RETI and RETN: `PC <- Pop16(); IFF1 <- IFF2` (R634). -/
def State.returnFromInterrupt (s : State) : State := s.ret.setIff s.iff2 s.iff2

end Sys2Proof.Machine
end

