-- ==== Sys2Proof/Machine/Operands.lean ====
section
/-! DEFINITION. The operand forms (30_encoding.md R135, R136; 43_alu8.md R338): register pairs by their codes, the index
registers and their halves, the indexed effective address, conditions and port addresses. -/

namespace Sys2Proof.Machine

/-- The index register a DD or FD byte names (30_encoding.md R110). -/
inductive Index where
  | ix | iy
  deriving DecidableEq, Repr

/-- `XY` (10_state.md R26). -/
def State.index (s : State) (k : Index) : Word :=
  match k with
  | .ix => s.ix
  | .iy => s.iy

/-- `XY <- v` (10_state.md R26). -/
def State.setIndex (s : State) (k : Index) (v : Word) : State :=
  match k with
  | .ix => s.setIx v
  | .iy => s.setIy v

/-- A half of an index register (10_state.md R26). -/
def State.half (s : State) (k : Index) (g : Half) : Byte :=
  match g with
  | .hi => hiByte (s.index k)
  | .lo => loByte (s.index k)

/-- A half of an index register written, the other half kept (10_state.md R26). -/
def State.setHalf (s : State) (k : Index) (g : Half) (v : Byte) : State :=
  match g with
  | .hi => s.setIndex k (joinBytes v (loByte (s.index k)))
  | .lo => s.setIndex k (joinBytes (hiByte (s.index k)) v)

/-- `EA(XY, d) = (XY + sext_16(d)) mod 65536` (30_encoding.md R135). -/
def State.ea (s : State) (k : Index) (d : Byte) : Word := s.index k + sext16 d

/-- A pair of the rp table (30_encoding.md R105). -/
def State.pair (s : State) (p : Pair) : Word :=
  match p with
  | .bc => s.bc | .de => s.de | .hl => s.hl | .sp => s.sp

/-- A pair of the rp table written (30_encoding.md R105). -/
def State.setPair (s : State) (p : Pair) (v : Word) : State :=
  match p with
  | .bc => s.setBc v | .de => s.setDe v | .hl => s.setHl v | .sp => s.setSp v

/-- A pair of the rp2 table (30_encoding.md R105). -/
def State.stackPair (s : State) (p : StackPair) : Word :=
  match p with
  | .bc => s.bc | .de => s.de | .hl => s.hl | .af => s.af

/-- A pair of the rp2 table written (30_encoding.md R105). -/
def State.setStackPair (s : State) (p : StackPair) (v : Word) : State :=
  match p with
  | .bc => s.setBc v | .de => s.setDe v | .hl => s.setHl v | .af => s.setAf v

/-- A pair of the rp table under DD or FD, where code 10 is the index register (30_encoding.md R105, R110). -/
def State.idxPair (s : State) (k : Index) (p : IdxPair) : Word :=
  match p with
  | .bc => s.bc | .de => s.de | .xy => s.index k | .sp => s.sp

/-- The condition codes (10_state.md R40). -/
def Flags.holds (fl : Flags) (cc : Cond) : Bool :=
  match cc with
  | .nz => !fl.z | .z => fl.z | .nc => !fl.c | .c => fl.c | .po => !fl.pv | .pe => fl.pv | .p => !fl.s | .m => fl.s

/-- `cc(F)` (10_state.md R40). -/
def State.cond (s : State) (cc : Cond) : Bool := s.flags.holds cc

/-- The port address `A : n` of IN A,(n) and OUT (n),A (20_memory.md R84). -/
def State.portN (s : State) (n : Byte) : Word := joinBytes (s.reg .a) n

/-- The port address `B : C` of the `(C)` forms (20_memory.md R84). -/
def State.portC (s : State) : Word := s.bc

/-- `F <- fl; r <- v` of an operation that answers a value and flags. -/
def State.putReg (s : State) (r : Reg8) (res : Byte × Flags) : State := (s.setFlags res.2).setReg r res.1

/-- `F <- fl; MemWrite(a, 1, v)` of an operation that answers a value and flags. -/
def State.putMem (s : State) (a : Word) (res : Byte × Flags) : State := (s.setFlags res.2).writeByte a res.1

/-- `F <- fl; the half <- v` of an operation that answers a value and flags. -/
def State.putHalf (s : State) (k : Index) (g : Half) (res : Byte × Flags) : State :=
  (s.setFlags res.2).setHalf k g res.1

/-- The register copy of the indexed-bit forms: `if z != 110: r[z] <- v` (30_encoding.md R113). -/
def State.copyTo (s : State) (z : Option Reg8) (v : Byte) : State :=
  match z with
  | none => s
  | some r => s.setReg r v

end Sys2Proof.Machine
end

