-- ==== Sys2Proof/Machine/Alu16.lean ====
section
/-! DEFINITION. The meanings of the 16-bit arithmetic group (45_alu16.md R450 to R460). Each runs on the state after
the fetch (log entry 4). -/

namespace Sys2Proof.Machine

/-- `(res, F) <- an operation; HL <- res` (R450 to R452). -/
def State.putHl (s : State) (res : Word × Flags) : State := (s.setFlags res.2).setHl res.1

/-- `(res, F) <- an operation; XY <- res` (R453, R454). -/
def State.putIndex (s : State) (k : Index) (res : Word × Flags) : State := (s.setFlags res.2).setIndex k res.1

/-- `ADD HL,ss` (R450). -/
def execAddHlSs (ss : Pair) (s : State) : Result := .next (s.putHl (add16 s.flagsProfile s.hl (s.pair ss) s.flags))

/-- `ADC HL,ss` (R451). -/
def execAdcHlSs (ss : Pair) (s : State) : Result := .next (s.putHl (adc16 s.hl (s.pair ss) s.flags.c))

/-- `SBC HL,ss` (R452). -/
def execSbcHlSs (ss : Pair) (s : State) : Result := .next (s.putHl (sbc16 s.hl (s.pair ss) s.flags.c))

/-- `ADD IX,pp` (R453). -/
def execAddIxPp (pp : IdxPair) (s : State) : Result :=
  .next (s.putIndex .ix (add16 s.flagsProfile s.ix (s.idxPair .ix pp) s.flags))

/-- `ADD IY,rr` (R454). -/
def execAddIyRr (rr : IdxPair) (s : State) : Result :=
  .next (s.putIndex .iy (add16 s.flagsProfile s.iy (s.idxPair .iy rr) s.flags))

/-- `INC ss` (R455). -/
def execIncSs (ss : Pair) (s : State) : Result := .next (s.setPair ss (s.pair ss + 1))

/-- `INC IX` (R456). -/
def execIncIx (s : State) : Result := .next (s.setIx (s.ix + 1))

/-- `INC IY` (R457). -/
def execIncIy (s : State) : Result := .next (s.setIy (s.iy + 1))

/-- `DEC ss` (R458). -/
def execDecSs (ss : Pair) (s : State) : Result := .next (s.setPair ss (s.pair ss - 1))

/-- `DEC IX` (R459). -/
def execDecIx (s : State) : Result := .next (s.setIx (s.ix - 1))

/-- `DEC IY` (R460). -/
def execDecIy (s : State) : Result := .next (s.setIy (s.iy - 1))

end Sys2Proof.Machine
end

