-- ==== Sys2Proof/Machine/Alu8.lean ====
section
/-! DEFINITION. The meanings of the 8-bit arithmetic and logic group (43_alu8.md R338 to R407). Each runs on the state
after the fetch (log entry 4). -/

namespace Sys2Proof.Machine

/-- The eight accumulator operations (R339). -/
inductive AluOp where
  | add | adc | sub | sbc | and | or | xor | cp
  deriving DecidableEq, Repr

/-- An accumulator operation on the operand `v`: A and F written, but CP leaves A (R338 to R395). -/
def State.alu (s : State) (op : AluOp) (v : Byte) : State :=
  match op with
  | .add => s.putReg .a (add8 (s.reg .a) v false)
  | .adc => s.putReg .a (add8 (s.reg .a) v s.flags.c)
  | .sub => s.putReg .a (sub8 (s.reg .a) v false)
  | .sbc => s.putReg .a (sub8 (s.reg .a) v s.flags.c)
  | .and => s.putReg .a (and8 (s.reg .a) v)
  | .or => s.putReg .a (or8 (s.reg .a) v)
  | .xor => s.putReg .a (xor8 (s.reg .a) v)
  | .cp => s.setFlags (cp8 (s.reg .a) v)

/-- `ADD A,r` (R340). -/
def execAddR (src : Reg8) (s : State) : Result := .next (s.alu .add (s.reg src))

/-- `ADD A,n` (R341). -/
def execAddN (n : Byte) (s : State) : Result := .next (s.alu .add n)

/-- `ADD A,(HL)` (R342). -/
def execAddMemHl (s : State) : Result := .next (s.alu .add (s.readByte s.hl))

/-- `ADD A,(IX+d)` (R343). -/
def execAddMemIx (d : Byte) (s : State) : Result := .next (s.alu .add (s.readByte (s.ea .ix d)))

/-- `ADD A,(IY+d)` (R344). -/
def execAddMemIy (d : Byte) (s : State) : Result := .next (s.alu .add (s.readByte (s.ea .iy d)))

/-- `ADD A,IXH / ADD A,IXL` (R345). -/
def execAddIxHalf (g : Half) (s : State) : Result := .next (s.alu .add (s.half .ix g))

/-- `ADD A,IYH / ADD A,IYL` (R346). -/
def execAddIyHalf (g : Half) (s : State) : Result := .next (s.alu .add (s.half .iy g))

/-- `ADC A,r` (R347). -/
def execAdcR (src : Reg8) (s : State) : Result := .next (s.alu .adc (s.reg src))

/-- `ADC A,n` (R348). -/
def execAdcN (n : Byte) (s : State) : Result := .next (s.alu .adc n)

/-- `ADC A,(HL)` (R349). -/
def execAdcMemHl (s : State) : Result := .next (s.alu .adc (s.readByte s.hl))

/-- `ADC A,(IX+d)` (R350). -/
def execAdcMemIx (d : Byte) (s : State) : Result := .next (s.alu .adc (s.readByte (s.ea .ix d)))

/-- `ADC A,(IY+d)` (R351). -/
def execAdcMemIy (d : Byte) (s : State) : Result := .next (s.alu .adc (s.readByte (s.ea .iy d)))

/-- `ADC A,IXH / ADC A,IXL` (R352). -/
def execAdcIxHalf (g : Half) (s : State) : Result := .next (s.alu .adc (s.half .ix g))

/-- `ADC A,IYH / ADC A,IYL` (R353). -/
def execAdcIyHalf (g : Half) (s : State) : Result := .next (s.alu .adc (s.half .iy g))

/-- `SUB r` (R354). -/
def execSubR (src : Reg8) (s : State) : Result := .next (s.alu .sub (s.reg src))

/-- `SUB n` (R355). -/
def execSubN (n : Byte) (s : State) : Result := .next (s.alu .sub n)

/-- `SUB (HL)` (R356). -/
def execSubMemHl (s : State) : Result := .next (s.alu .sub (s.readByte s.hl))

/-- `SUB (IX+d)` (R357). -/
def execSubMemIx (d : Byte) (s : State) : Result := .next (s.alu .sub (s.readByte (s.ea .ix d)))

/-- `SUB (IY+d)` (R358). -/
def execSubMemIy (d : Byte) (s : State) : Result := .next (s.alu .sub (s.readByte (s.ea .iy d)))

/-- `SUB IXH / SUB IXL` (R359). -/
def execSubIxHalf (g : Half) (s : State) : Result := .next (s.alu .sub (s.half .ix g))

/-- `SUB IYH / SUB IYL` (R360). -/
def execSubIyHalf (g : Half) (s : State) : Result := .next (s.alu .sub (s.half .iy g))

/-- `SBC A,r` (R361). -/
def execSbcR (src : Reg8) (s : State) : Result := .next (s.alu .sbc (s.reg src))

/-- `SBC A,n` (R362). -/
def execSbcN (n : Byte) (s : State) : Result := .next (s.alu .sbc n)

/-- `SBC A,(HL)` (R363). -/
def execSbcMemHl (s : State) : Result := .next (s.alu .sbc (s.readByte s.hl))

/-- `SBC A,(IX+d)` (R364). -/
def execSbcMemIx (d : Byte) (s : State) : Result := .next (s.alu .sbc (s.readByte (s.ea .ix d)))

/-- `SBC A,(IY+d)` (R365). -/
def execSbcMemIy (d : Byte) (s : State) : Result := .next (s.alu .sbc (s.readByte (s.ea .iy d)))

/-- `SBC A,IXH / SBC A,IXL` (R366). -/
def execSbcIxHalf (g : Half) (s : State) : Result := .next (s.alu .sbc (s.half .ix g))

/-- `SBC A,IYH / SBC A,IYL` (R367). -/
def execSbcIyHalf (g : Half) (s : State) : Result := .next (s.alu .sbc (s.half .iy g))

/-- `AND r` (R368). -/
def execAndR (src : Reg8) (s : State) : Result := .next (s.alu .and (s.reg src))

/-- `AND n` (R369). -/
def execAndN (n : Byte) (s : State) : Result := .next (s.alu .and n)

/-- `AND (HL)` (R370). -/
def execAndMemHl (s : State) : Result := .next (s.alu .and (s.readByte s.hl))

/-- `AND (IX+d)` (R371). -/
def execAndMemIx (d : Byte) (s : State) : Result := .next (s.alu .and (s.readByte (s.ea .ix d)))

/-- `AND (IY+d)` (R372). -/
def execAndMemIy (d : Byte) (s : State) : Result := .next (s.alu .and (s.readByte (s.ea .iy d)))

/-- `AND IXH / AND IXL` (R373). -/
def execAndIxHalf (g : Half) (s : State) : Result := .next (s.alu .and (s.half .ix g))

/-- `AND IYH / AND IYL` (R374). -/
def execAndIyHalf (g : Half) (s : State) : Result := .next (s.alu .and (s.half .iy g))

/-- `OR r` (R375). -/
def execOrR (src : Reg8) (s : State) : Result := .next (s.alu .or (s.reg src))

/-- `OR n` (R376). -/
def execOrN (n : Byte) (s : State) : Result := .next (s.alu .or n)

/-- `OR (HL)` (R377). -/
def execOrMemHl (s : State) : Result := .next (s.alu .or (s.readByte s.hl))

/-- `OR (IX+d)` (R378). -/
def execOrMemIx (d : Byte) (s : State) : Result := .next (s.alu .or (s.readByte (s.ea .ix d)))

/-- `OR (IY+d)` (R379). -/
def execOrMemIy (d : Byte) (s : State) : Result := .next (s.alu .or (s.readByte (s.ea .iy d)))

/-- `OR IXH / OR IXL` (R380). -/
def execOrIxHalf (g : Half) (s : State) : Result := .next (s.alu .or (s.half .ix g))

/-- `OR IYH / OR IYL` (R381). -/
def execOrIyHalf (g : Half) (s : State) : Result := .next (s.alu .or (s.half .iy g))

/-- `XOR r` (R382). -/
def execXorR (src : Reg8) (s : State) : Result := .next (s.alu .xor (s.reg src))

/-- `XOR n` (R383). -/
def execXorN (n : Byte) (s : State) : Result := .next (s.alu .xor n)

/-- `XOR (HL)` (R384). -/
def execXorMemHl (s : State) : Result := .next (s.alu .xor (s.readByte s.hl))

/-- `XOR (IX+d)` (R385). -/
def execXorMemIx (d : Byte) (s : State) : Result := .next (s.alu .xor (s.readByte (s.ea .ix d)))

/-- `XOR (IY+d)` (R386). -/
def execXorMemIy (d : Byte) (s : State) : Result := .next (s.alu .xor (s.readByte (s.ea .iy d)))

/-- `XOR IXH / XOR IXL` (R387). -/
def execXorIxHalf (g : Half) (s : State) : Result := .next (s.alu .xor (s.half .ix g))

/-- `XOR IYH / XOR IYL` (R388). -/
def execXorIyHalf (g : Half) (s : State) : Result := .next (s.alu .xor (s.half .iy g))

/-- `CP r` (R389). -/
def execCpR (src : Reg8) (s : State) : Result := .next (s.alu .cp (s.reg src))

/-- `CP n` (R390). -/
def execCpN (n : Byte) (s : State) : Result := .next (s.alu .cp n)

/-- `CP (HL)` (R391). -/
def execCpMemHl (s : State) : Result := .next (s.alu .cp (s.readByte s.hl))

/-- `CP (IX+d)` (R392). -/
def execCpMemIx (d : Byte) (s : State) : Result := .next (s.alu .cp (s.readByte (s.ea .ix d)))

/-- `CP (IY+d)` (R393). -/
def execCpMemIy (d : Byte) (s : State) : Result := .next (s.alu .cp (s.readByte (s.ea .iy d)))

/-- `CP IXH / CP IXL` (R394). -/
def execCpIxHalf (g : Half) (s : State) : Result := .next (s.alu .cp (s.half .ix g))

/-- `CP IYH / CP IYL` (R395). -/
def execCpIyHalf (g : Half) (s : State) : Result := .next (s.alu .cp (s.half .iy g))

/-- `INC r` (R396). -/
def execIncR (dst : Reg8) (s : State) : Result := .next (s.putReg dst (inc8 (s.reg dst) s.flags))

/-- `INC (HL)` (R397). -/
def execIncMemHl (s : State) : Result := .next (s.putMem s.hl (inc8 (s.readByte s.hl) s.flags))

/-- `INC (IX+d)` (R398). -/
def execIncMemIx (d : Byte) (s : State) : Result :=
  .next (s.putMem (s.ea .ix d) (inc8 (s.readByte (s.ea .ix d)) s.flags))

/-- `INC (IY+d)` (R399). -/
def execIncMemIy (d : Byte) (s : State) : Result :=
  .next (s.putMem (s.ea .iy d) (inc8 (s.readByte (s.ea .iy d)) s.flags))

/-- `INC IXH / INC IXL` (R400). -/
def execIncIxHalf (g : Half) (s : State) : Result := .next (s.putHalf .ix g (inc8 (s.half .ix g) s.flags))

/-- `INC IYH / INC IYL` (R401). -/
def execIncIyHalf (g : Half) (s : State) : Result := .next (s.putHalf .iy g (inc8 (s.half .iy g) s.flags))

/-- `DEC r` (R402). -/
def execDecR (dst : Reg8) (s : State) : Result := .next (s.putReg dst (dec8 (s.reg dst) s.flags))

/-- `DEC (HL)` (R403). -/
def execDecMemHl (s : State) : Result := .next (s.putMem s.hl (dec8 (s.readByte s.hl) s.flags))

/-- `DEC (IX+d)` (R404). -/
def execDecMemIx (d : Byte) (s : State) : Result :=
  .next (s.putMem (s.ea .ix d) (dec8 (s.readByte (s.ea .ix d)) s.flags))

/-- `DEC (IY+d)` (R405). -/
def execDecMemIy (d : Byte) (s : State) : Result :=
  .next (s.putMem (s.ea .iy d) (dec8 (s.readByte (s.ea .iy d)) s.flags))

/-- `DEC IXH / DEC IXL` (R406). -/
def execDecIxHalf (g : Half) (s : State) : Result := .next (s.putHalf .ix g (dec8 (s.half .ix g) s.flags))

/-- `DEC IYH / DEC IYL` (R407). -/
def execDecIyHalf (g : Half) (s : State) : Result := .next (s.putHalf .iy g (dec8 (s.half .iy g) s.flags))

end Sys2Proof.Machine
end

