-- ==== Sys2Proof/Machine/Bit.lean ====
section
/-! DEFINITION. The meanings of the bit set, reset and test group (47_bit.md R520 to R531). Each runs on the state
after the fetch (log entry 4). -/

namespace Sys2Proof.Machine

/-- SET and RES of the byte at `a`, with the register copy `z` of the indexed forms; no flag changes (R525 to R531). -/
def State.putBit (s : State) (a : Word) (b : BitVec 3) (x : Bool) (z : Option Reg8) : State :=
  let res := setBit (s.readByte a) b.toNat x
  (s.writeByte a res).copyTo z res

/-- `BIT b,r` (R520). -/
def execBitR (b : BitVec 3) (src : Reg8) (s : State) : Result :=
  .next (s.setFlags (bitFlags b (s.reg src) (s.reg src) s.flags))

/-- `BIT b,(HL)` (R521). -/
def execBitMemHl (b : BitVec 3) (s : State) : Result :=
  .next (s.setFlags (bitFlags b (s.readByte s.hl) (s.reg .h) s.flags))

/-- `BIT b,(IX+d)` (R522). -/
def execBitMemIx (b : BitVec 3) (d : Byte) (_j : BitVec 3) (s : State) : Result :=
  .next (s.setFlags (bitFlags b (s.readByte (s.ea .ix d)) (hiByte (s.ea .ix d)) s.flags))

/-- `BIT b,(IY+d)` (R523). -/
def execBitMemIy (b : BitVec 3) (d : Byte) (_j : BitVec 3) (s : State) : Result :=
  .next (s.setFlags (bitFlags b (s.readByte (s.ea .iy d)) (hiByte (s.ea .iy d)) s.flags))

/-- `SET b,r` (R524). -/
def execSetR (b : BitVec 3) (dst : Reg8) (s : State) : Result :=
  .next (s.setReg dst (setBit (s.reg dst) b.toNat true))

/-- `SET b,(HL)` (R525). -/
def execSetMemHl (b : BitVec 3) (s : State) : Result := .next (s.putBit s.hl b true none)

/-- `SET b,(IX+d)` (R526). -/
def execSetMemIx (b : BitVec 3) (d : Byte) (z : Option Reg8) (s : State) : Result :=
  .next (s.putBit (s.ea .ix d) b true z)

/-- `SET b,(IY+d)` (R527). -/
def execSetMemIy (b : BitVec 3) (d : Byte) (z : Option Reg8) (s : State) : Result :=
  .next (s.putBit (s.ea .iy d) b true z)

/-- `RES b,r` (R528). -/
def execResR (b : BitVec 3) (dst : Reg8) (s : State) : Result :=
  .next (s.setReg dst (setBit (s.reg dst) b.toNat false))

/-- `RES b,(HL)` (R529). -/
def execResMemHl (b : BitVec 3) (s : State) : Result := .next (s.putBit s.hl b false none)

/-- `RES b,(IX+d)` (R530). -/
def execResMemIx (b : BitVec 3) (d : Byte) (z : Option Reg8) (s : State) : Result :=
  .next (s.putBit (s.ea .ix d) b false z)

/-- `RES b,(IY+d)` (R531). -/
def execResMemIy (b : BitVec 3) (d : Byte) (z : Option Reg8) (s : State) : Result :=
  .next (s.putBit (s.ea .iy d) b false z)

end Sys2Proof.Machine
end

