-- ==== Sys2Proof/Machine/Control.lean ====
section
/-! DEFINITION. The meanings of the general-purpose arithmetic and CPU control group (44_control.md R420 to R433).
Each runs on the state after the fetch (log entry 4). -/

namespace Sys2Proof.Machine

/-- `DAA` (R420). -/
def execDaa (s : State) : Result := .next (s.putReg .a (daaAdjust (s.reg .a) s.flags))

/-- `CPL` (R421). -/
def execCpl (s : State) : Result := .next (s.putReg .a (s.reg .a ^^^ 0xFF, cplFlags (s.reg .a ^^^ 0xFF) s.flags))

/-- `NEG` (R422). -/
def execNeg (_m : BitVec 3) (s : State) : Result := .next (s.putReg .a (sub8 0 (s.reg .a) false))

/-- `CCF` (R423). -/
def execCcf (s : State) : Result := .next (s.setFlags (ccfFlags (s.reg .a) s.flags))

/-- `SCF` (R424). -/
def execScf (s : State) : Result := .next (s.setFlags (scfFlags (s.reg .a) s.flags))

/-- `NOP` (R425). -/
def execNop (s : State) : Result := .next s

/-- `HALT` (R426). -/
def execHalt (s : State) : Result := .next (s.setHalted true)

/-- `DI` (R427). -/
def execDi (s : State) : Result := .next (s.setIff false false)

/-- `EI` (R428). -/
def execEi (s : State) : Result := .next (s.setIff true true)

/-- `IM 0` (R429). -/
def execIm0 (_m : Bool) (_k : Bool) (s : State) : Result := .next (s.setIm .im0)

/-- `IM 1` (R430). -/
def execIm1 (_m : Bool) (s : State) : Result := .next (s.setIm .im1)

/-- `IM 2` (R431). -/
def execIm2 (_m : Bool) (s : State) : Result := .next (s.setIm .im2)

/-- `NONI (undefined ED opcode)` (R432). -/
def execNoni (_op : Byte) (s : State) : Result := .next s

/-- `prefix ignored (DD/FD before an opcode that uses no H, L, HL or (HL))` (R433). -/
def execPrefixIgnored (_fd : Bool) (s : State) : Result := .next s

end Sys2Proof.Machine
end

