-- ==== Sys2Proof/Machine/Exchange.lean ====
section
/-! DEFINITION. The meanings of the exchange, block transfer and block search group (42_exchange_block.md R300 to
R314). Each runs on the state after the fetch (log entry 4). -/

namespace Sys2Proof.Machine

/-- The direction of a block instruction: the I forms step up, the D forms step down (R307, R309). -/
inductive Direction where
  | up | down
  deriving DecidableEq, Repr

/-- What a block instruction adds to its pointers, modulo 65536 (R307, R309). -/
def Direction.step (dir : Direction) : Word :=
  match dir with
  | .up => 1
  | .down => -1

/-- One element of a block transfer: the byte at HL goes to DE, then the pointers step and BC counts down (R307,
R309). -/
def State.blockMove (s : State) (dir : Direction) : State :=
  let v := s.readByte s.hl
  let moved := s.writeByte s.de v
  let stepped := ((moved.setHl (s.hl + dir.step)).setDe (s.de + dir.step)).setBc (s.bc - 1)
  stepped.setFlags (blockMoveFlags v (s.reg .a) (s.bc - 1) s.flags)

/-- One element of a block search: A is compared with the byte at HL, then HL steps and BC counts down (R311, R313). -/
def State.blockCompare (s : State) (dir : Direction) : State :=
  let v := s.readByte s.hl
  let stepped := (s.setHl (s.hl + dir.step)).setBc (s.bc - 1)
  stepped.setFlags (blockCompareFlags (s.reg .a) v (s.bc - 1) s.flags)

/-- `EX DE,HL` (R300). -/
def execExDeHl (s : State) : Result := .next ((s.setDe s.hl).setHl s.de)

/-- `EX AF,AF'` (R301). -/
def execExAfAf (s : State) : Result := .next s.swapAf

/-- `EXX` (R302). -/
def execExx (s : State) : Result := .next s.swapGp

/-- `EX (SP),HL` (R303). -/
def execExSpHl (s : State) : Result := .next ((s.writeWord s.sp s.hl).setHl (s.readWord s.sp))

/-- `EX (SP),IX` (R304). -/
def execExSpIx (s : State) : Result := .next ((s.writeWord s.sp (s.index .ix)).setIndex .ix (s.readWord s.sp))

/-- `EX (SP),IY` (R305). -/
def execExSpIy (s : State) : Result := .next ((s.writeWord s.sp (s.index .iy)).setIndex .iy (s.readWord s.sp))

/-- `LDI` (R307). -/
def execLdi (s : State) : Result := .next (s.blockMove .up)

/-- `LDIR` (R308). -/
def execLdir (s : State) : Result := .next ((s.blockMove .up).repeatIf ((s.blockMove .up).bc != 0))

/-- `LDD` (R309). -/
def execLdd (s : State) : Result := .next (s.blockMove .down)

/-- `LDDR` (R310). -/
def execLddr (s : State) : Result := .next ((s.blockMove .down).repeatIf ((s.blockMove .down).bc != 0))

/-- `CPI` (R311). -/
def execCpi (s : State) : Result := .next (s.blockCompare .up)

/-- `CPIR` (R312). -/
def execCpir (s : State) : Result :=
  .next ((s.blockCompare .up).repeatIf ((s.blockCompare .up).bc != 0 && s.reg .a != s.readByte s.hl))

/-- `CPD` (R313). -/
def execCpd (s : State) : Result := .next (s.blockCompare .down)

/-- `CPDR` (R314). -/
def execCpdr (s : State) : Result :=
  .next ((s.blockCompare .down).repeatIf ((s.blockCompare .down).bc != 0 && s.reg .a != s.readByte s.hl))

end Sys2Proof.Machine
end

