-- ==== Sys2Proof/Machine/Io.lean ====
section
/-! DEFINITION. The meanings of the input and output group (49_io.md R581 to R594). Each runs on the state after the
fetch (log entry 4). -/

namespace Sys2Proof.Machine

/-- One element of a block input: the port address holds B before its decrement (R584, R586). -/
def State.blockIn (s : State) (dir : Direction) : State :=
  let v := s.ioValue s.portC
  let b := s.reg .b - 1
  let k := v.toNat + (s.reg .c + loByte dir.step).toNat
  let stored := (s.ioRead s.portC).writeByte s.hl v
  ((stored.setHl (s.hl + dir.step)).setReg .b b).setFlags (blockIoFlags v k b)

/-- One element of a block output: B is decremented first, so the port address holds the new B (R591, R593). -/
def State.blockOut (s : State) (dir : Direction) : State :=
  let b := s.reg .b - 1
  let counted := s.setReg .b b
  let v := counted.readByte counted.hl
  let stepped := (counted.ioWrite counted.portC v).setHl (counted.hl + dir.step)
  stepped.setFlags (blockIoFlags v (v.toNat + (stepped.reg .l).toNat) b)

/-- `IN A,(n)` (R581). -/
def execInAN (n : Byte) (s : State) : Result := .next ((s.ioRead (s.portN n)).setReg .a (s.ioValue (s.portN n)))

/-- `IN r,(C)` (R582). -/
def execInRC (dst : Reg8) (s : State) : Result :=
  .next ((s.ioRead s.portC).putReg dst (s.ioValue s.portC, shiftFlags (s.ioValue s.portC) s.flags.c))

/-- `IN (C)` (R583). -/
def execInC (s : State) : Result := .next ((s.ioRead s.portC).setFlags (shiftFlags (s.ioValue s.portC) s.flags.c))

/-- `INI` (R584). -/
def execIni (s : State) : Result := .next (s.blockIn .up)

/-- `INIR` (R585). -/
def execInir (s : State) : Result := .next ((s.blockIn .up).repeatIf ((s.blockIn .up).reg .b != 0))

/-- `IND` (R586). -/
def execInd (s : State) : Result := .next (s.blockIn .down)

/-- `INDR` (R587). -/
def execIndr (s : State) : Result := .next ((s.blockIn .down).repeatIf ((s.blockIn .down).reg .b != 0))

/-- `OUT (n),A` (R588). -/
def execOutNA (n : Byte) (s : State) : Result := .next (s.ioWrite (s.portN n) (s.reg .a))

/-- `OUT (C),r` (R589). -/
def execOutCR (src : Reg8) (s : State) : Result := .next (s.ioWrite s.portC (s.reg src))

/-- `OUT (C),0` (R590). -/
def execOutC0 (s : State) : Result := .next (s.ioWrite s.portC 0x00)

/-- `OUTI` (R591). -/
def execOuti (s : State) : Result := .next (s.blockOut .up)

/-- `OTIR` (R592). -/
def execOtir (s : State) : Result := .next ((s.blockOut .up).repeatIf ((s.blockOut .up).reg .b != 0))

/-- `OUTD` (R593). -/
def execOutd (s : State) : Result := .next (s.blockOut .down)

/-- `OTDR` (R594). -/
def execOtdr (s : State) : Result := .next ((s.blockOut .down).repeatIf ((s.blockOut .down).reg .b != 0))

end Sys2Proof.Machine
end

