-- ==== Sys2Proof/Machine/Jump.lean ====
section
/-! DEFINITION. The meanings of the jump, call and return group (48_jump_call_return.md R540 to R554); `s.pc` is
`next`, the address after the instruction (log entry 4). Each runs on the state after the fetch (log entry 4). -/

namespace Sys2Proof.Machine

/-- `JP nn` (R540). -/
def execJpNn (nn : Word) (s : State) : Result := .next (s.setPc nn)

/-- `JP cc,nn` (R541). -/
def execJpCc (cc : Cond) (nn : Word) (s : State) : Result := .next (if s.cond cc then s.setPc nn else s)

/-- `JR e` (R542). -/
def execJr (e : Byte) (s : State) : Result := .next (s.jumpRelative e)

/-- `JR cc,e` (R543). -/
def execJrCc (cc : Cond) (e : Byte) (s : State) : Result := .next (if s.cond cc then s.jumpRelative e else s)

/-- `JP (HL)` (R544). -/
def execJpHl (s : State) : Result := .next (s.setPc s.hl)

/-- `JP (IX)` (R545). -/
def execJpIx (s : State) : Result := .next (s.setPc s.ix)

/-- `JP (IY)` (R546). -/
def execJpIy (s : State) : Result := .next (s.setPc s.iy)

/-- `DJNZ e` (R547). -/
def execDjnz (e : Byte) (s : State) : Result :=
  .next (if s.reg .b - 1 != 0 then (s.setReg .b (s.reg .b - 1)).jumpRelative e else s.setReg .b (s.reg .b - 1))

/-- `CALL nn` (R548). -/
def execCallNn (nn : Word) (s : State) : Result := .next (s.call nn)

/-- `CALL cc,nn` (R549). -/
def execCallCc (cc : Cond) (nn : Word) (s : State) : Result := .next (if s.cond cc then s.call nn else s)

/-- `RET` (R550). -/
def execRet (s : State) : Result := .next s.ret

/-- `RET cc` (R551). -/
def execRetCc (cc : Cond) (s : State) : Result := .next (if s.cond cc then s.ret else s)

/-- `RETI` (R552). -/
def execReti (s : State) : Result := .next s.returnFromInterrupt

/-- `RETN` (R553). -/
def execRetn (_m : BitVec 3) (s : State) : Result := .next s.returnFromInterrupt

/-- `RST p` (R554). -/
def execRst (t : BitVec 3) (s : State) : Result := .next (s.call (8 * t.setWidth 16))

end Sys2Proof.Machine
end

