-- ==== Sys2Proof/Machine/Load16.lean ====
section
/-! DEFINITION. The meanings of the 16-bit load group (41_load16.md R260 to R279). Each runs on the state after the
fetch (log entry 4). -/

namespace Sys2Proof.Machine

/-- `LD dd,nn` (R260). -/
def execLdDdNn (dd : Pair) (nn : Word) (s : State) : Result := .next (s.setPair dd nn)

/-- `LD IX,nn` (R261). -/
def execLdIxNn (nn : Word) (s : State) : Result := .next (s.setIndex .ix nn)

/-- `LD IY,nn` (R262). -/
def execLdIyNn (nn : Word) (s : State) : Result := .next (s.setIndex .iy nn)

/-- `LD HL,(nn)` (R263). -/
def execLdHlMem (nn : Word) (s : State) : Result := .next (s.setHl (s.readWord nn))

/-- `LD dd,(nn)` (R264). -/
def execLdDdMem (dd : Pair) (nn : Word) (s : State) : Result := .next (s.setPair dd (s.readWord nn))

/-- `LD IX,(nn)` (R265). -/
def execLdIxMem (nn : Word) (s : State) : Result := .next (s.setIndex .ix (s.readWord nn))

/-- `LD IY,(nn)` (R266). -/
def execLdIyMem (nn : Word) (s : State) : Result := .next (s.setIndex .iy (s.readWord nn))

/-- `LD (nn),HL` (R267). -/
def execLdMemHl (nn : Word) (s : State) : Result := .next (s.writeWord nn s.hl)

/-- `LD (nn),dd` (R268). -/
def execLdMemDd (nn : Word) (dd : Pair) (s : State) : Result := .next (s.writeWord nn (s.pair dd))

/-- `LD (nn),IX` (R269). -/
def execLdMemIx (nn : Word) (s : State) : Result := .next (s.writeWord nn (s.index .ix))

/-- `LD (nn),IY` (R270). -/
def execLdMemIy (nn : Word) (s : State) : Result := .next (s.writeWord nn (s.index .iy))

/-- `LD SP,HL` (R271). -/
def execLdSpHl (s : State) : Result := .next (s.setSp s.hl)

/-- `LD SP,IX` (R272). -/
def execLdSpIx (s : State) : Result := .next (s.setSp (s.index .ix))

/-- `LD SP,IY` (R273). -/
def execLdSpIy (s : State) : Result := .next (s.setSp (s.index .iy))

/-- `PUSH qq` (R274). -/
def execPushQq (qq : StackPair) (s : State) : Result := .next (s.push16 (s.stackPair qq))

/-- `PUSH IX` (R275). -/
def execPushIx (s : State) : Result := .next (s.push16 (s.index .ix))

/-- `PUSH IY` (R276). -/
def execPushIy (s : State) : Result := .next (s.push16 (s.index .iy))

/-- `POP qq` (R277). -/
def execPopQq (qq : StackPair) (s : State) : Result := .next (s.dropTop.setStackPair qq s.top)

/-- `POP IX` (R278). -/
def execPopIx (s : State) : Result := .next (s.dropTop.setIndex .ix s.top)

/-- `POP IY` (R279). -/
def execPopIy (s : State) : Result := .next (s.dropTop.setIndex .iy s.top)

end Sys2Proof.Machine
end

