-- ==== Sys2Proof/Machine/Load8.lean ====
section
/-! DEFINITION. The meanings of the 8-bit load group (40_load8.md R200 to R228). Each runs on the state after the
fetch (log entry 4). -/

namespace Sys2Proof.Machine

/-- LD A,I and LD A,R: the value with its flags, PV from IFF2 (R217, R218; 70_reset_and_hazards.md R689). -/
def State.loadIr (s : State) (v : Byte) : State := s.putReg .a (v, loadIrFlags v s.iff2 s.flags)

/-- `LD r,r'` (R200). -/
def execLdRR (dst : Reg8) (src : Reg8) (s : State) : Result := .next (s.setReg dst (s.reg src))

/-- `LD r,n` (R201). -/
def execLdRN (dst : Reg8) (n : Byte) (s : State) : Result := .next (s.setReg dst n)

/-- `LD r,(HL)` (R202). -/
def execLdRHl (dst : Reg8) (s : State) : Result := .next (s.setReg dst (s.readByte s.hl))

/-- `LD r,(IX+d)` (R203). -/
def execLdRIx (dst : Reg8) (d : Byte) (s : State) : Result := .next (s.setReg dst (s.readByte (s.ea .ix d)))

/-- `LD r,(IY+d)` (R204). -/
def execLdRIy (dst : Reg8) (d : Byte) (s : State) : Result := .next (s.setReg dst (s.readByte (s.ea .iy d)))

/-- `LD (HL),r` (R205). -/
def execLdHlR (src : Reg8) (s : State) : Result := .next (s.writeByte s.hl (s.reg src))

/-- `LD (IX+d),r` (R206). -/
def execLdIxR (d : Byte) (src : Reg8) (s : State) : Result := .next (s.writeByte (s.ea .ix d) (s.reg src))

/-- `LD (IY+d),r` (R207). -/
def execLdIyR (d : Byte) (src : Reg8) (s : State) : Result := .next (s.writeByte (s.ea .iy d) (s.reg src))

/-- `LD (HL),n` (R208). -/
def execLdHlN (n : Byte) (s : State) : Result := .next (s.writeByte s.hl n)

/-- `LD (IX+d),n` (R209). -/
def execLdIxN (d : Byte) (n : Byte) (s : State) : Result := .next (s.writeByte (s.ea .ix d) n)

/-- `LD (IY+d),n` (R210). -/
def execLdIyN (d : Byte) (n : Byte) (s : State) : Result := .next (s.writeByte (s.ea .iy d) n)

/-- `LD A,(BC)` (R211). -/
def execLdABc (s : State) : Result := .next (s.setReg .a (s.readByte s.bc))

/-- `LD A,(DE)` (R212). -/
def execLdADe (s : State) : Result := .next (s.setReg .a (s.readByte s.de))

/-- `LD A,(nn)` (R213). -/
def execLdANn (nn : Word) (s : State) : Result := .next (s.setReg .a (s.readByte nn))

/-- `LD (BC),A` (R214). -/
def execLdBcA (s : State) : Result := .next (s.writeByte s.bc (s.reg .a))

/-- `LD (DE),A` (R215). -/
def execLdDeA (s : State) : Result := .next (s.writeByte s.de (s.reg .a))

/-- `LD (nn),A` (R216). -/
def execLdNnA (nn : Word) (s : State) : Result := .next (s.writeByte nn (s.reg .a))

/-- `LD A,I` (R217). -/
def execLdAI (s : State) : Result := .next (s.loadIr s.regI)

/-- `LD A,R` (R218). -/
def execLdAR (s : State) : Result := .next (s.loadIr s.regR)

/-- `LD I,A` (R219). -/
def execLdIA (s : State) : Result := .next (s.setI (s.reg .a))

/-- `LD R,A` (R220). -/
def execLdRA (s : State) : Result := .next (s.setR (s.reg .a))

/-- `LD r,IXH / LD r,IXL` (R221). -/
def execLdRIxHalf (dst : Reg8) (g : Half) (s : State) : Result := .next (s.setReg dst (s.half .ix g))

/-- `LD IXH,r / LD IXL,r` (R222). -/
def execLdIxHalfR (g : Half) (src : Reg8) (s : State) : Result := .next (s.setHalf .ix g (s.reg src))

/-- `LD IXp,IXq` (R223). -/
def execLdIxHalfHalf (g : Half) (h : Half) (s : State) : Result := .next (s.setHalf .ix g (s.half .ix h))

/-- `LD IXH,n / LD IXL,n` (R224). -/
def execLdIxHalfN (g : Half) (n : Byte) (s : State) : Result := .next (s.setHalf .ix g n)

/-- `LD r,IYH / LD r,IYL` (R225). -/
def execLdRIyHalf (dst : Reg8) (g : Half) (s : State) : Result := .next (s.setReg dst (s.half .iy g))

/-- `LD IYH,r / LD IYL,r` (R226). -/
def execLdIyHalfR (g : Half) (src : Reg8) (s : State) : Result := .next (s.setHalf .iy g (s.reg src))

/-- `LD IYp,IYq` (R227). -/
def execLdIyHalfHalf (g : Half) (h : Half) (s : State) : Result := .next (s.setHalf .iy g (s.half .iy h))

/-- `LD IYH,n / LD IYL,n` (R228). -/
def execLdIyHalfN (g : Half) (n : Byte) (s : State) : Result := .next (s.setHalf .iy g n)

end Sys2Proof.Machine
end

