-- ==== Sys2Proof/Machine/Rotate.lean ====
section
/-! DEFINITION. The meanings of the rotate and shift group (46_rotate_shift.md R470 to R508). Each runs on the state
after the fetch (log entry 4). -/

namespace Sys2Proof.Machine

/-- An accumulator rotate (R470 to R473). -/
def State.rotAcc (s : State) (op : RotOp) : State :=
  let (res, c) := rot op (s.reg .a) s.flags.c
  s.putReg .a (res, accRotFlags s.flagsProfile res c s.flags)

/-- A CB rotate or shift of the byte at `a`, with the register copy `z` of the indexed forms (R474). -/
def State.rotMem (s : State) (op : RotOp) (a : Word) (z : Option Reg8) : State :=
  let res := rotate op (s.readByte a) s.flags.c
  (s.putMem a res).copyTo z res.1

/-- `v[7:4]`. -/
def hiDigit (v : Byte) : BitVec 4 := v.extractLsb' 4 4
/-- `v[3:0]`. -/
def loDigit (v : Byte) : BitVec 4 := v.extractLsb' 0 4

/-- RLD and RRD: the two digits written to the byte at HL and the digit that enters A, whose high digit stays; C kept
(R507, R508). -/
def State.rotDigits (s : State) (memHi memLo accLo : BitVec 4) : State :=
  let acc := hiDigit (s.reg .a) ++ accLo
  (s.writeByte s.hl (memHi ++ memLo)).putReg .a (acc, shiftFlags acc s.flags.c)

/-- `RLCA` (R470). -/
def execRlca (s : State) : Result := .next (s.rotAcc .rlc)

/-- `RLA` (R471). -/
def execRla (s : State) : Result := .next (s.rotAcc .rl)

/-- `RRCA` (R472). -/
def execRrca (s : State) : Result := .next (s.rotAcc .rrc)

/-- `RRA` (R473). -/
def execRra (s : State) : Result := .next (s.rotAcc .rr)

/-- `RLC r` (R475). -/
def execRlcR (dst : Reg8) (s : State) : Result := .next (s.putReg dst (rotate .rlc (s.reg dst) s.flags.c))

/-- `RLC (HL)` (R476). -/
def execRlcMemHl (s : State) : Result := .next (s.rotMem .rlc s.hl none)

/-- `RLC (IX+d)` (R477). -/
def execRlcMemIx (d : Byte) (z : Option Reg8) (s : State) : Result := .next (s.rotMem .rlc (s.ea .ix d) z)

/-- `RLC (IY+d)` (R478). -/
def execRlcMemIy (d : Byte) (z : Option Reg8) (s : State) : Result := .next (s.rotMem .rlc (s.ea .iy d) z)

/-- `RL r` (R479). -/
def execRlR (dst : Reg8) (s : State) : Result := .next (s.putReg dst (rotate .rl (s.reg dst) s.flags.c))

/-- `RL (HL)` (R480). -/
def execRlMemHl (s : State) : Result := .next (s.rotMem .rl s.hl none)

/-- `RL (IX+d)` (R481). -/
def execRlMemIx (d : Byte) (z : Option Reg8) (s : State) : Result := .next (s.rotMem .rl (s.ea .ix d) z)

/-- `RL (IY+d)` (R482). -/
def execRlMemIy (d : Byte) (z : Option Reg8) (s : State) : Result := .next (s.rotMem .rl (s.ea .iy d) z)

/-- `RRC r` (R483). -/
def execRrcR (dst : Reg8) (s : State) : Result := .next (s.putReg dst (rotate .rrc (s.reg dst) s.flags.c))

/-- `RRC (HL)` (R484). -/
def execRrcMemHl (s : State) : Result := .next (s.rotMem .rrc s.hl none)

/-- `RRC (IX+d)` (R485). -/
def execRrcMemIx (d : Byte) (z : Option Reg8) (s : State) : Result := .next (s.rotMem .rrc (s.ea .ix d) z)

/-- `RRC (IY+d)` (R486). -/
def execRrcMemIy (d : Byte) (z : Option Reg8) (s : State) : Result := .next (s.rotMem .rrc (s.ea .iy d) z)

/-- `RR r` (R487). -/
def execRrR (dst : Reg8) (s : State) : Result := .next (s.putReg dst (rotate .rr (s.reg dst) s.flags.c))

/-- `RR (HL)` (R488). -/
def execRrMemHl (s : State) : Result := .next (s.rotMem .rr s.hl none)

/-- `RR (IX+d)` (R489). -/
def execRrMemIx (d : Byte) (z : Option Reg8) (s : State) : Result := .next (s.rotMem .rr (s.ea .ix d) z)

/-- `RR (IY+d)` (R490). -/
def execRrMemIy (d : Byte) (z : Option Reg8) (s : State) : Result := .next (s.rotMem .rr (s.ea .iy d) z)

/-- `SLA r` (R491). -/
def execSlaR (dst : Reg8) (s : State) : Result := .next (s.putReg dst (rotate .sla (s.reg dst) s.flags.c))

/-- `SLA (HL)` (R492). -/
def execSlaMemHl (s : State) : Result := .next (s.rotMem .sla s.hl none)

/-- `SLA (IX+d)` (R493). -/
def execSlaMemIx (d : Byte) (z : Option Reg8) (s : State) : Result := .next (s.rotMem .sla (s.ea .ix d) z)

/-- `SLA (IY+d)` (R494). -/
def execSlaMemIy (d : Byte) (z : Option Reg8) (s : State) : Result := .next (s.rotMem .sla (s.ea .iy d) z)

/-- `SRA r` (R495). -/
def execSraR (dst : Reg8) (s : State) : Result := .next (s.putReg dst (rotate .sra (s.reg dst) s.flags.c))

/-- `SRA (HL)` (R496). -/
def execSraMemHl (s : State) : Result := .next (s.rotMem .sra s.hl none)

/-- `SRA (IX+d)` (R497). -/
def execSraMemIx (d : Byte) (z : Option Reg8) (s : State) : Result := .next (s.rotMem .sra (s.ea .ix d) z)

/-- `SRA (IY+d)` (R498). -/
def execSraMemIy (d : Byte) (z : Option Reg8) (s : State) : Result := .next (s.rotMem .sra (s.ea .iy d) z)

/-- `SRL r` (R499). -/
def execSrlR (dst : Reg8) (s : State) : Result := .next (s.putReg dst (rotate .srl (s.reg dst) s.flags.c))

/-- `SRL (HL)` (R500). -/
def execSrlMemHl (s : State) : Result := .next (s.rotMem .srl s.hl none)

/-- `SRL (IX+d)` (R501). -/
def execSrlMemIx (d : Byte) (z : Option Reg8) (s : State) : Result := .next (s.rotMem .srl (s.ea .ix d) z)

/-- `SRL (IY+d)` (R502). -/
def execSrlMemIy (d : Byte) (z : Option Reg8) (s : State) : Result := .next (s.rotMem .srl (s.ea .iy d) z)

/-- `SLL r` (R503). -/
def execSllR (dst : Reg8) (s : State) : Result := .next (s.putReg dst (rotate .sll (s.reg dst) s.flags.c))

/-- `SLL (HL)` (R504). -/
def execSllMemHl (s : State) : Result := .next (s.rotMem .sll s.hl none)

/-- `SLL (IX+d)` (R505). -/
def execSllMemIx (d : Byte) (z : Option Reg8) (s : State) : Result := .next (s.rotMem .sll (s.ea .ix d) z)

/-- `SLL (IY+d)` (R506). -/
def execSllMemIy (d : Byte) (z : Option Reg8) (s : State) : Result := .next (s.rotMem .sll (s.ea .iy d) z)

/-- `RLD` (R507). -/
def execRld (s : State) : Result :=
  .next (s.rotDigits (loDigit (s.readByte s.hl)) (loDigit (s.reg .a)) (hiDigit (s.readByte s.hl)))

/-- `RRD` (R508). -/
def execRrd (s : State) : Result :=
  .next (s.rotDigits (loDigit (s.reg .a)) (hiDigit (s.readByte s.hl)) (loDigit (s.readByte s.hl)))

end Sys2Proof.Machine
end

