-- ==== Sys2Proof/Machine/Dispatch.lean ====
section
/-! DEFINITION. The meaning of each instruction, one arm per constructor. -/

namespace Sys2Proof.Machine

/-- What instruction `i` does to the state `s` that its fetch left: PC is the address after the instruction and R has
counted its fetch cycles (log entry 4). -/
def exec (i : Instr) (s : State) : Host.Outcome State Fault Refusal :=
  match i with
  | .ldRR dst src => Sys2Proof.Machine.execLdRR dst src s
  | .ldRN dst n => Sys2Proof.Machine.execLdRN dst n s
  | .ldRHl dst => Sys2Proof.Machine.execLdRHl dst s
  | .ldRIx dst d => Sys2Proof.Machine.execLdRIx dst d s
  | .ldRIy dst d => Sys2Proof.Machine.execLdRIy dst d s
  | .ldHlR src => Sys2Proof.Machine.execLdHlR src s
  | .ldIxR d src => Sys2Proof.Machine.execLdIxR d src s
  | .ldIyR d src => Sys2Proof.Machine.execLdIyR d src s
  | .ldHlN n => Sys2Proof.Machine.execLdHlN n s
  | .ldIxN d n => Sys2Proof.Machine.execLdIxN d n s
  | .ldIyN d n => Sys2Proof.Machine.execLdIyN d n s
  | .ldABc => Sys2Proof.Machine.execLdABc s
  | .ldADe => Sys2Proof.Machine.execLdADe s
  | .ldANn nn => Sys2Proof.Machine.execLdANn nn s
  | .ldBcA => Sys2Proof.Machine.execLdBcA s
  | .ldDeA => Sys2Proof.Machine.execLdDeA s
  | .ldNnA nn => Sys2Proof.Machine.execLdNnA nn s
  | .ldAI => Sys2Proof.Machine.execLdAI s
  | .ldAR => Sys2Proof.Machine.execLdAR s
  | .ldIA => Sys2Proof.Machine.execLdIA s
  | .ldRA => Sys2Proof.Machine.execLdRA s
  | .ldRIxHalf dst g => Sys2Proof.Machine.execLdRIxHalf dst g s
  | .ldIxHalfR g src => Sys2Proof.Machine.execLdIxHalfR g src s
  | .ldIxHalfHalf g h => Sys2Proof.Machine.execLdIxHalfHalf g h s
  | .ldIxHalfN g n => Sys2Proof.Machine.execLdIxHalfN g n s
  | .ldRIyHalf dst g => Sys2Proof.Machine.execLdRIyHalf dst g s
  | .ldIyHalfR g src => Sys2Proof.Machine.execLdIyHalfR g src s
  | .ldIyHalfHalf g h => Sys2Proof.Machine.execLdIyHalfHalf g h s
  | .ldIyHalfN g n => Sys2Proof.Machine.execLdIyHalfN g n s
  | .ldDdNn dd nn => Sys2Proof.Machine.execLdDdNn dd nn s
  | .ldIxNn nn => Sys2Proof.Machine.execLdIxNn nn s
  | .ldIyNn nn => Sys2Proof.Machine.execLdIyNn nn s
  | .ldHlMem nn => Sys2Proof.Machine.execLdHlMem nn s
  | .ldDdMem dd nn => Sys2Proof.Machine.execLdDdMem dd nn s
  | .ldIxMem nn => Sys2Proof.Machine.execLdIxMem nn s
  | .ldIyMem nn => Sys2Proof.Machine.execLdIyMem nn s
  | .ldMemHl nn => Sys2Proof.Machine.execLdMemHl nn s
  | .ldMemDd nn dd => Sys2Proof.Machine.execLdMemDd nn dd s
  | .ldMemIx nn => Sys2Proof.Machine.execLdMemIx nn s
  | .ldMemIy nn => Sys2Proof.Machine.execLdMemIy nn s
  | .ldSpHl => Sys2Proof.Machine.execLdSpHl s
  | .ldSpIx => Sys2Proof.Machine.execLdSpIx s
  | .ldSpIy => Sys2Proof.Machine.execLdSpIy s
  | .pushQq qq => Sys2Proof.Machine.execPushQq qq s
  | .pushIx => Sys2Proof.Machine.execPushIx s
  | .pushIy => Sys2Proof.Machine.execPushIy s
  | .popQq qq => Sys2Proof.Machine.execPopQq qq s
  | .popIx => Sys2Proof.Machine.execPopIx s
  | .popIy => Sys2Proof.Machine.execPopIy s
  | .exDeHl => Sys2Proof.Machine.execExDeHl s
  | .exAfAf => Sys2Proof.Machine.execExAfAf s
  | .exx => Sys2Proof.Machine.execExx s
  | .exSpHl => Sys2Proof.Machine.execExSpHl s
  | .exSpIx => Sys2Proof.Machine.execExSpIx s
  | .exSpIy => Sys2Proof.Machine.execExSpIy s
  | .ldi => Sys2Proof.Machine.execLdi s
  | .ldir => Sys2Proof.Machine.execLdir s
  | .ldd => Sys2Proof.Machine.execLdd s
  | .lddr => Sys2Proof.Machine.execLddr s
  | .cpi => Sys2Proof.Machine.execCpi s
  | .cpir => Sys2Proof.Machine.execCpir s
  | .cpd => Sys2Proof.Machine.execCpd s
  | .cpdr => Sys2Proof.Machine.execCpdr s
  | .addR src => Sys2Proof.Machine.execAddR src s
  | .addN n => Sys2Proof.Machine.execAddN n s
  | .addMemHl => Sys2Proof.Machine.execAddMemHl s
  | .addMemIx d => Sys2Proof.Machine.execAddMemIx d s
  | .addMemIy d => Sys2Proof.Machine.execAddMemIy d s
  | .addIxHalf g => Sys2Proof.Machine.execAddIxHalf g s
  | .addIyHalf g => Sys2Proof.Machine.execAddIyHalf g s
  | .adcR src => Sys2Proof.Machine.execAdcR src s
  | .adcN n => Sys2Proof.Machine.execAdcN n s
  | .adcMemHl => Sys2Proof.Machine.execAdcMemHl s
  | .adcMemIx d => Sys2Proof.Machine.execAdcMemIx d s
  | .adcMemIy d => Sys2Proof.Machine.execAdcMemIy d s
  | .adcIxHalf g => Sys2Proof.Machine.execAdcIxHalf g s
  | .adcIyHalf g => Sys2Proof.Machine.execAdcIyHalf g s
  | .subR src => Sys2Proof.Machine.execSubR src s
  | .subN n => Sys2Proof.Machine.execSubN n s
  | .subMemHl => Sys2Proof.Machine.execSubMemHl s
  | .subMemIx d => Sys2Proof.Machine.execSubMemIx d s
  | .subMemIy d => Sys2Proof.Machine.execSubMemIy d s
  | .subIxHalf g => Sys2Proof.Machine.execSubIxHalf g s
  | .subIyHalf g => Sys2Proof.Machine.execSubIyHalf g s
  | .sbcR src => Sys2Proof.Machine.execSbcR src s
  | .sbcN n => Sys2Proof.Machine.execSbcN n s
  | .sbcMemHl => Sys2Proof.Machine.execSbcMemHl s
  | .sbcMemIx d => Sys2Proof.Machine.execSbcMemIx d s
  | .sbcMemIy d => Sys2Proof.Machine.execSbcMemIy d s
  | .sbcIxHalf g => Sys2Proof.Machine.execSbcIxHalf g s
  | .sbcIyHalf g => Sys2Proof.Machine.execSbcIyHalf g s
  | .andR src => Sys2Proof.Machine.execAndR src s
  | .andN n => Sys2Proof.Machine.execAndN n s
  | .andMemHl => Sys2Proof.Machine.execAndMemHl s
  | .andMemIx d => Sys2Proof.Machine.execAndMemIx d s
  | .andMemIy d => Sys2Proof.Machine.execAndMemIy d s
  | .andIxHalf g => Sys2Proof.Machine.execAndIxHalf g s
  | .andIyHalf g => Sys2Proof.Machine.execAndIyHalf g s
  | .orR src => Sys2Proof.Machine.execOrR src s
  | .orN n => Sys2Proof.Machine.execOrN n s
  | .orMemHl => Sys2Proof.Machine.execOrMemHl s
  | .orMemIx d => Sys2Proof.Machine.execOrMemIx d s
  | .orMemIy d => Sys2Proof.Machine.execOrMemIy d s
  | .orIxHalf g => Sys2Proof.Machine.execOrIxHalf g s
  | .orIyHalf g => Sys2Proof.Machine.execOrIyHalf g s
  | .xorR src => Sys2Proof.Machine.execXorR src s
  | .xorN n => Sys2Proof.Machine.execXorN n s
  | .xorMemHl => Sys2Proof.Machine.execXorMemHl s
  | .xorMemIx d => Sys2Proof.Machine.execXorMemIx d s
  | .xorMemIy d => Sys2Proof.Machine.execXorMemIy d s
  | .xorIxHalf g => Sys2Proof.Machine.execXorIxHalf g s
  | .xorIyHalf g => Sys2Proof.Machine.execXorIyHalf g s
  | .cpR src => Sys2Proof.Machine.execCpR src s
  | .cpN n => Sys2Proof.Machine.execCpN n s
  | .cpMemHl => Sys2Proof.Machine.execCpMemHl s
  | .cpMemIx d => Sys2Proof.Machine.execCpMemIx d s
  | .cpMemIy d => Sys2Proof.Machine.execCpMemIy d s
  | .cpIxHalf g => Sys2Proof.Machine.execCpIxHalf g s
  | .cpIyHalf g => Sys2Proof.Machine.execCpIyHalf g s
  | .incR dst => Sys2Proof.Machine.execIncR dst s
  | .incMemHl => Sys2Proof.Machine.execIncMemHl s
  | .incMemIx d => Sys2Proof.Machine.execIncMemIx d s
  | .incMemIy d => Sys2Proof.Machine.execIncMemIy d s
  | .incIxHalf g => Sys2Proof.Machine.execIncIxHalf g s
  | .incIyHalf g => Sys2Proof.Machine.execIncIyHalf g s
  | .decR dst => Sys2Proof.Machine.execDecR dst s
  | .decMemHl => Sys2Proof.Machine.execDecMemHl s
  | .decMemIx d => Sys2Proof.Machine.execDecMemIx d s
  | .decMemIy d => Sys2Proof.Machine.execDecMemIy d s
  | .decIxHalf g => Sys2Proof.Machine.execDecIxHalf g s
  | .decIyHalf g => Sys2Proof.Machine.execDecIyHalf g s
  | .daa => Sys2Proof.Machine.execDaa s
  | .cpl => Sys2Proof.Machine.execCpl s
  | .neg m => Sys2Proof.Machine.execNeg m s
  | .ccf => Sys2Proof.Machine.execCcf s
  | .scf => Sys2Proof.Machine.execScf s
  | .nop => Sys2Proof.Machine.execNop s
  | .halt => Sys2Proof.Machine.execHalt s
  | .di => Sys2Proof.Machine.execDi s
  | .ei => Sys2Proof.Machine.execEi s
  | .im0 m k => Sys2Proof.Machine.execIm0 m k s
  | .im1 m => Sys2Proof.Machine.execIm1 m s
  | .im2 m => Sys2Proof.Machine.execIm2 m s
  | .noni op => Sys2Proof.Machine.execNoni op s
  | .prefixIgnored fd => Sys2Proof.Machine.execPrefixIgnored fd s
  | .addHlSs ss => Sys2Proof.Machine.execAddHlSs ss s
  | .adcHlSs ss => Sys2Proof.Machine.execAdcHlSs ss s
  | .sbcHlSs ss => Sys2Proof.Machine.execSbcHlSs ss s
  | .addIxPp pp => Sys2Proof.Machine.execAddIxPp pp s
  | .addIyRr rr => Sys2Proof.Machine.execAddIyRr rr s
  | .incSs ss => Sys2Proof.Machine.execIncSs ss s
  | .incIx => Sys2Proof.Machine.execIncIx s
  | .incIy => Sys2Proof.Machine.execIncIy s
  | .decSs ss => Sys2Proof.Machine.execDecSs ss s
  | .decIx => Sys2Proof.Machine.execDecIx s
  | .decIy => Sys2Proof.Machine.execDecIy s
  | .rlca => Sys2Proof.Machine.execRlca s
  | .rla => Sys2Proof.Machine.execRla s
  | .rrca => Sys2Proof.Machine.execRrca s
  | .rra => Sys2Proof.Machine.execRra s
  | .rlcR dst => Sys2Proof.Machine.execRlcR dst s
  | .rlcMemHl => Sys2Proof.Machine.execRlcMemHl s
  | .rlcMemIx d z => Sys2Proof.Machine.execRlcMemIx d z s
  | .rlcMemIy d z => Sys2Proof.Machine.execRlcMemIy d z s
  | .rlR dst => Sys2Proof.Machine.execRlR dst s
  | .rlMemHl => Sys2Proof.Machine.execRlMemHl s
  | .rlMemIx d z => Sys2Proof.Machine.execRlMemIx d z s
  | .rlMemIy d z => Sys2Proof.Machine.execRlMemIy d z s
  | .rrcR dst => Sys2Proof.Machine.execRrcR dst s
  | .rrcMemHl => Sys2Proof.Machine.execRrcMemHl s
  | .rrcMemIx d z => Sys2Proof.Machine.execRrcMemIx d z s
  | .rrcMemIy d z => Sys2Proof.Machine.execRrcMemIy d z s
  | .rrR dst => Sys2Proof.Machine.execRrR dst s
  | .rrMemHl => Sys2Proof.Machine.execRrMemHl s
  | .rrMemIx d z => Sys2Proof.Machine.execRrMemIx d z s
  | .rrMemIy d z => Sys2Proof.Machine.execRrMemIy d z s
  | .slaR dst => Sys2Proof.Machine.execSlaR dst s
  | .slaMemHl => Sys2Proof.Machine.execSlaMemHl s
  | .slaMemIx d z => Sys2Proof.Machine.execSlaMemIx d z s
  | .slaMemIy d z => Sys2Proof.Machine.execSlaMemIy d z s
  | .sraR dst => Sys2Proof.Machine.execSraR dst s
  | .sraMemHl => Sys2Proof.Machine.execSraMemHl s
  | .sraMemIx d z => Sys2Proof.Machine.execSraMemIx d z s
  | .sraMemIy d z => Sys2Proof.Machine.execSraMemIy d z s
  | .srlR dst => Sys2Proof.Machine.execSrlR dst s
  | .srlMemHl => Sys2Proof.Machine.execSrlMemHl s
  | .srlMemIx d z => Sys2Proof.Machine.execSrlMemIx d z s
  | .srlMemIy d z => Sys2Proof.Machine.execSrlMemIy d z s
  | .sllR dst => Sys2Proof.Machine.execSllR dst s
  | .sllMemHl => Sys2Proof.Machine.execSllMemHl s
  | .sllMemIx d z => Sys2Proof.Machine.execSllMemIx d z s
  | .sllMemIy d z => Sys2Proof.Machine.execSllMemIy d z s
  | .rld => Sys2Proof.Machine.execRld s
  | .rrd => Sys2Proof.Machine.execRrd s
  | .bitR b src => Sys2Proof.Machine.execBitR b src s
  | .bitMemHl b => Sys2Proof.Machine.execBitMemHl b s
  | .bitMemIx b d j => Sys2Proof.Machine.execBitMemIx b d j s
  | .bitMemIy b d j => Sys2Proof.Machine.execBitMemIy b d j s
  | .setR b dst => Sys2Proof.Machine.execSetR b dst s
  | .setMemHl b => Sys2Proof.Machine.execSetMemHl b s
  | .setMemIx b d z => Sys2Proof.Machine.execSetMemIx b d z s
  | .setMemIy b d z => Sys2Proof.Machine.execSetMemIy b d z s
  | .resR b dst => Sys2Proof.Machine.execResR b dst s
  | .resMemHl b => Sys2Proof.Machine.execResMemHl b s
  | .resMemIx b d z => Sys2Proof.Machine.execResMemIx b d z s
  | .resMemIy b d z => Sys2Proof.Machine.execResMemIy b d z s
  | .jpNn nn => Sys2Proof.Machine.execJpNn nn s
  | .jpCc cc nn => Sys2Proof.Machine.execJpCc cc nn s
  | .jr e => Sys2Proof.Machine.execJr e s
  | .jrCc cc e => Sys2Proof.Machine.execJrCc cc e s
  | .jpHl => Sys2Proof.Machine.execJpHl s
  | .jpIx => Sys2Proof.Machine.execJpIx s
  | .jpIy => Sys2Proof.Machine.execJpIy s
  | .djnz e => Sys2Proof.Machine.execDjnz e s
  | .callNn nn => Sys2Proof.Machine.execCallNn nn s
  | .callCc cc nn => Sys2Proof.Machine.execCallCc cc nn s
  | .ret => Sys2Proof.Machine.execRet s
  | .retCc cc => Sys2Proof.Machine.execRetCc cc s
  | .reti => Sys2Proof.Machine.execReti s
  | .retn m => Sys2Proof.Machine.execRetn m s
  | .rst t => Sys2Proof.Machine.execRst t s
  | .inAN n => Sys2Proof.Machine.execInAN n s
  | .inRC dst => Sys2Proof.Machine.execInRC dst s
  | .inC => Sys2Proof.Machine.execInC s
  | .ini => Sys2Proof.Machine.execIni s
  | .inir => Sys2Proof.Machine.execInir s
  | .ind => Sys2Proof.Machine.execInd s
  | .indr => Sys2Proof.Machine.execIndr s
  | .outNA n => Sys2Proof.Machine.execOutNA n s
  | .outCR src => Sys2Proof.Machine.execOutCR src s
  | .outC0 => Sys2Proof.Machine.execOutC0 s
  | .outi => Sys2Proof.Machine.execOuti s
  | .otir => Sys2Proof.Machine.execOtir s
  | .outd => Sys2Proof.Machine.execOutd s
  | .otdr => Sys2Proof.Machine.execOtdr s

end Sys2Proof.Machine
end

