-- ==== Sys2Proof/Machine/Fetch.lean ====
section
/-! DEFINITION. Fetching an instruction (30_encoding.md R130 to R132; 20_memory.md R94, R95), and placing one where the
next step fetches it (log entry 5). -/

namespace Sys2Proof.Machine

/-- `b(k)`, the byte at `pc0 + k` modulo 65536 (00_scope.md R10; 20_memory.md R71). -/
def State.codeByte (s : State) (k : Word) : Byte := s.readByte (s.pc + k)

/-- The instruction at PC (30_encoding.md R130). All its bytes are read before it writes anything (20_memory.md R95);
bytes past its end are not looked at. -/
def State.fetchInstr (s : State) : Instr :=
  decodeBytes (s.codeByte 0) (s.codeByte 1) (s.codeByte 2) (s.codeByte 3)

/-- The state an instruction runs on: R has counted the fetch cycles (30_encoding.md R131) and PC is `next`
(10_state.md R28). -/
def State.afterFetch (s : State) (i : Instr) : State :=
  (s.bumpR (fetchCycles i)).setPc (s.pc + BitVec.ofNat 16 (instrLength i))

/-- A halted step: nothing changes but R (30_encoding.md R132). -/
def State.haltedStep (s : State) : State := s.bumpR 1

/-- The four bytes of a table word, the first at PC (log entries 2 and 5). -/
def State.wordCells (s : State) (nbits w : Nat) : List (Word × Byte) :=
  [(s.pc, tableByte nbits w 0), (s.pc + 1, tableByte nbits w 1), (s.pc + 2, tableByte nbits w 2),
   (s.pc + 3, tableByte nbits w 3)]

/-- `s`, running, with the four bytes of a table word stored from PC up, as `load` stores them; MEM_SIZE becomes 65536
only if a byte that is not 0x00 would lie past the array (log entry 5). -/
def State.placeWord (s : State) (nbits w : Nat) : State :=
  let cells := s.wordCells nbits w
  { s with
    halted := false
    mem := cells.foldl (fun m cell => m.put cell.1.toNat cell.2) s.mem
    memSize := if cells.all (fun cell => decide (cell.1.toNat < s.memSize) || cell.2 == Memory.unlisted) then s.memSize
      else 65536 }

end Sys2Proof.Machine
end

