-- ==== Sys2Proof/Machine/Step.lean ====
section
/-! DEFINITION. One step of the core (30_encoding.md R130). -/

namespace Sys2Proof.Machine

/-- One call of `step()`: a halted step (R132), or the instruction at PC, whole (R130). -/
def step (s : State) : Host.Outcome State Fault Refusal :=
  if s.halted then .next s.haltedStep else exec s.fetchInstr (s.afterFetch s.fetchInstr)

/-- `s` with the instruction whose bits are `w` stored where `step` fetches its next instruction, and running (log
entry 5). -/
def State.withFetchWord (s : State) (nbits w : Nat) : State := s.placeWord nbits w

end Sys2Proof.Machine
end

