-- ==== Sys2Proof/Machine/HostOps.lean ====
section
/-! DEFINITION. What the host does between steps (60_exceptions.md R622, R661): the two interrupt events, `load`, the
ROM range, staging input and reading output, the word accessors, and writing any component of the state. -/

namespace Sys2Proof.Machine

/-! ### The interrupt events -/

/-- The data bytes mode 0 executes: a one-byte unprefixed instruction (R626, R627). -/
def isOneByteOpcode (data : Byte) : Bool :=
  baseLength data == 1 && data != 0xCB && data != 0xDD && data != 0xED && data != 0xFD

/-- The mode 0 action: the data byte runs as a one-byte instruction whose `next` is PC itself, with no further increment
of R (R625, R626); any other data byte is refused (R627). -/
def modeZeroAction (data : Byte) (s : State) : Result :=
  if isOneByteOpcode data then exec (decodeBase data 0 0) s else .refused (.im0Data data)

/-- `interrupt(data)`: ignored while IFF1 = 0 (R623); otherwise accepted, then the action of the mode (R624 to
R629). -/
def interrupt (data : Byte) (s : State) : Result :=
  if s.iff1 then
    match s.im with
    | .im0 => modeZeroAction data s.acceptInt
    | .im1 => .next s.acceptInt.modeOneAction
    | .im2 => .next (s.acceptInt.modeTwoAction data)
  else .next s

/-- `nmi()`: always accepted (R630). -/
def nmi (s : State) : Result := .next s.takeNmi

/-! ### Memory and the ROM range (20_memory.md R74, R77, R78, R80) -/

/-- `load(bytes, origin)`: all bytes or none, not bound by the ROM range (R80, R75). `none` is a byte source that cannot
be read. -/
def load (source : Option (List Byte)) (origin : Word) (s : State) : Result :=
  match source with
  | none => .fault .ioError
  | some bytes =>
    if origin.toNat + bytes.length > s.memSize then .refused .loadOverflow
    else .next { s with mem := s.mem.putAll origin.toNat bytes }

/-- `set_rom_range(start, end)`: a later call replaces the range (R74). -/
def State.setRomRange (s : State) (first last : Word) : State := { s with rom := some (first, last) }

/-- `read_word(a)`: little-endian (R77). -/
def State.hostReadWord (s : State) (a : Word) : Word := s.readWord a

/-- `read_le_word(a)`: the byte-swapped value (R77). -/
def State.hostReadLeWord (s : State) (a : Word) : Word := joinBytes (s.readByte a) (s.readByte (a + 1))

/-- `write_word(a, v)` (R77). -/
def State.hostWriteWord (s : State) (a v : Word) : State := s.writeWord a v

/-- `read_dword(a)`: little-endian (R78). -/
def State.hostReadDword (s : State) (a : Word) : BitVec 32 :=
  s.readByte (a + 3) ++ s.readByte (a + 2) ++ s.readByte (a + 1) ++ s.readByte a

/-! ### I/O slots (20_memory.md R85, R86) -/

/-- A slot set to a byte or emptied. -/
def slotPut (slots : Slots) (q : Byte) (v : Option Byte) : Slots :=
  match v with
  | none => cellsDrop slots q.toNat
  | some b => cellsPut slots q.toNat b

/-- Stage input: `InSlot[q] <- v` (R86). -/
def State.stageInput (s : State) (q v : Byte) : State := { s with inSlots := slotPut s.inSlots q (some v) }

/-- Read output: `OutSlot[q]` (R85). -/
def State.readOutput (s : State) (q : Byte) : Option Byte := s.outSlot q

/-! ### Writing the state (10_state.md R47) -/

/-- A component of the state with the value the host writes to it (R47: every component of R20). `bank` is the bank
number, false for bank 0. -/
inductive Poke where
  | reg (bank : Bool) (r : Reg8) (v : Byte)
  | f (bank : Bool) (v : Byte)
  | flag (name : FlagName) (v : Bool)
  | selAf (v : Bool)
  | selGp (v : Bool)
  | ix (v : Word)
  | iy (v : Word)
  | sp (v : Word)
  | pc (v : Word)
  | i (v : Byte)
  | r (v : Byte)
  | iff1 (v : Bool)
  | iff2 (v : Bool)
  | im (v : IntMode)
  | halted (v : Bool)
  | mem (a : Word) (v : Byte)
  | rom (v : Option (Word × Word))
  | inSlot (q : Byte) (v : Option Byte)
  | outSlot (q : Byte) (v : Option Byte)
  deriving DecidableEq, Repr

/-- `fl` with one flag replaced (10_state.md R29). -/
def Flags.set (fl : Flags) (name : FlagName) (v : Bool) : Flags :=
  match name with
  | .s => { fl with s := v } | .z => { fl with z := v } | .y => { fl with y := v } | .h => { fl with h := v }
  | .x => { fl with x := v } | .pv => { fl with pv := v } | .n => { fl with n := v } | .c => { fl with c := v }

/-- The host's write: registers unrestricted, a memory byte under the same ROM rule as the core's writes (R47;
20_memory.md R75). -/
def State.poke (s : State) (p : Poke) : State :=
  match p with
  | .reg false r v => { s with bank0 := s.bank0.set r v }
  | .reg true r v => { s with bank1 := s.bank1.set r v }
  | .f false v => { s with bank0 := { s.bank0 with f := v } }
  | .f true v => { s with bank1 := { s.bank1 with f := v } }
  | .flag name v => s.setFlags (s.flags.set name v)
  | .selAf v => { s with selAf := v }
  | .selGp v => { s with selGp := v }
  | .ix v => s.setIx v
  | .iy v => s.setIy v
  | .sp v => s.setSp v
  | .pc v => s.setPc v
  | .i v => s.setI v
  | .r v => s.setR v
  | .iff1 v => s.setIff v s.iff2
  | .iff2 v => s.setIff s.iff1 v
  | .im v => s.setIm v
  | .halted v => s.setHalted v
  | .mem a v => s.writeByte a v
  | .rom v => { s with rom := v }
  | .inSlot q v => { s with inSlots := slotPut s.inSlots q v }
  | .outSlot q v => { s with outSlots := slotPut s.outSlots q v }

/-! ### The host interface as one type (60_exceptions.md R661) -/

/-- An operation of the host on an existing core (R661). -/
inductive HostOp where
  | load (source : Option (List Byte)) (origin : Word)
  | setRomRange (first last : Word)
  | step
  | interrupt (data : Byte)
  | nmi
  | modify (p : Poke)
  | writeWord (a v : Word)
  | stageInput (q v : Byte)
  deriving DecidableEq, Repr

/-- One operation of the host (R661). -/
def perform (op : HostOp) (s : State) : Result :=
  match op with
  | .load source origin => load source origin s
  | .setRomRange first last => .next (s.setRomRange first last)
  | .step => step s
  | .interrupt data => interrupt data s
  | .nmi => nmi s
  | .modify p => .next (s.poke p)
  | .writeWord a v => .next (s.hostWriteWord a v)
  | .stageInput q v => .next (s.stageInput q v)

end Sys2Proof.Machine
end

