-- ==== Sys2Proof/Machine/Timing.lean ====
section
/-! DEFINITION. T-states (70_reset_and_hazards.md R690, R691; 60_exceptions.md R639). They are an output of a step or an
event and no rule reads them, so they are functions beside `step` (log entry 7). -/

namespace Sys2Proof.Machine

/-- The T-states of one iteration of a repeating block instruction: 21 when it holds, 16 when it completes
(42_exchange_block.md R306). -/
def repeatT (again : Bool) : Nat := if again then 21 else 16

/-- The T-states of an instruction on the state `exec` runs it on, row by row of R691. -/
def instrT (i : Instr) (s : State) : Nat :=
  match i with
  | .ldRR _ _ => 4
  | .ldRN _ _ => 7
  | .ldRHl _ => 7
  | .ldRIx _ _ => 19
  | .ldRIy _ _ => 19
  | .ldHlR _ => 7
  | .ldIxR _ _ => 19
  | .ldIyR _ _ => 19
  | .ldHlN _ => 10
  | .ldIxN _ _ => 19
  | .ldIyN _ _ => 19
  | .ldABc => 7
  | .ldADe => 7
  | .ldANn _ => 13
  | .ldBcA => 7
  | .ldDeA => 7
  | .ldNnA _ => 13
  | .ldAI => 9
  | .ldAR => 9
  | .ldIA => 9
  | .ldRA => 9
  | .ldRIxHalf _ _ => 8
  | .ldIxHalfR _ _ => 8
  | .ldIxHalfHalf _ _ => 8
  | .ldIxHalfN _ _ => 11
  | .ldRIyHalf _ _ => 8
  | .ldIyHalfR _ _ => 8
  | .ldIyHalfHalf _ _ => 8
  | .ldIyHalfN _ _ => 11
  | .ldDdNn _ _ => 10
  | .ldIxNn _ => 14
  | .ldIyNn _ => 14
  | .ldHlMem _ => 16
  | .ldDdMem _ _ => 20
  | .ldIxMem _ => 20
  | .ldIyMem _ => 20
  | .ldMemHl _ => 16
  | .ldMemDd _ _ => 20
  | .ldMemIx _ => 20
  | .ldMemIy _ => 20
  | .ldSpHl => 6
  | .ldSpIx => 10
  | .ldSpIy => 10
  | .pushQq _ => 11
  | .pushIx => 15
  | .pushIy => 15
  | .popQq _ => 10
  | .popIx => 14
  | .popIy => 14
  | .exDeHl => 4
  | .exAfAf => 4
  | .exx => 4
  | .exSpHl => 19
  | .exSpIx => 23
  | .exSpIy => 23
  | .ldi => 16
  | .ldir => repeatT ((s.blockMove .up).bc != 0)
  | .ldd => 16
  | .lddr => repeatT ((s.blockMove .down).bc != 0)
  | .cpi => 16
  | .cpir => repeatT ((s.blockCompare .up).bc != 0 && s.reg .a != s.readByte s.hl)
  | .cpd => 16
  | .cpdr => repeatT ((s.blockCompare .down).bc != 0 && s.reg .a != s.readByte s.hl)
  | .addR _ => 4
  | .addN _ => 7
  | .addMemHl => 7
  | .addMemIx _ => 19
  | .addMemIy _ => 19
  | .addIxHalf _ => 8
  | .addIyHalf _ => 8
  | .adcR _ => 4
  | .adcN _ => 7
  | .adcMemHl => 7
  | .adcMemIx _ => 19
  | .adcMemIy _ => 19
  | .adcIxHalf _ => 8
  | .adcIyHalf _ => 8
  | .subR _ => 4
  | .subN _ => 7
  | .subMemHl => 7
  | .subMemIx _ => 19
  | .subMemIy _ => 19
  | .subIxHalf _ => 8
  | .subIyHalf _ => 8
  | .sbcR _ => 4
  | .sbcN _ => 7
  | .sbcMemHl => 7
  | .sbcMemIx _ => 19
  | .sbcMemIy _ => 19
  | .sbcIxHalf _ => 8
  | .sbcIyHalf _ => 8
  | .andR _ => 4
  | .andN _ => 7
  | .andMemHl => 7
  | .andMemIx _ => 19
  | .andMemIy _ => 19
  | .andIxHalf _ => 8
  | .andIyHalf _ => 8
  | .orR _ => 4
  | .orN _ => 7
  | .orMemHl => 7
  | .orMemIx _ => 19
  | .orMemIy _ => 19
  | .orIxHalf _ => 8
  | .orIyHalf _ => 8
  | .xorR _ => 4
  | .xorN _ => 7
  | .xorMemHl => 7
  | .xorMemIx _ => 19
  | .xorMemIy _ => 19
  | .xorIxHalf _ => 8
  | .xorIyHalf _ => 8
  | .cpR _ => 4
  | .cpN _ => 7
  | .cpMemHl => 7
  | .cpMemIx _ => 19
  | .cpMemIy _ => 19
  | .cpIxHalf _ => 8
  | .cpIyHalf _ => 8
  | .incR _ => 4
  | .incMemHl => 11
  | .incMemIx _ => 23
  | .incMemIy _ => 23
  | .incIxHalf _ => 8
  | .incIyHalf _ => 8
  | .decR _ => 4
  | .decMemHl => 11
  | .decMemIx _ => 23
  | .decMemIy _ => 23
  | .decIxHalf _ => 8
  | .decIyHalf _ => 8
  | .daa => 4
  | .cpl => 4
  | .neg _ => 8
  | .ccf => 4
  | .scf => 4
  | .nop => 4
  | .halt => 4
  | .di => 4
  | .ei => 4
  | .im0 _ _ => 8
  | .im1 _ => 8
  | .im2 _ => 8
  | .noni _ => 8
  | .prefixIgnored _ => 4
  | .addHlSs _ => 11
  | .adcHlSs _ => 15
  | .sbcHlSs _ => 15
  | .addIxPp _ => 15
  | .addIyRr _ => 15
  | .incSs _ => 6
  | .incIx => 10
  | .incIy => 10
  | .decSs _ => 6
  | .decIx => 10
  | .decIy => 10
  | .rlca => 4
  | .rla => 4
  | .rrca => 4
  | .rra => 4
  | .rlcR _ => 8
  | .rlcMemHl => 15
  | .rlcMemIx _ _ => 23
  | .rlcMemIy _ _ => 23
  | .rlR _ => 8
  | .rlMemHl => 15
  | .rlMemIx _ _ => 23
  | .rlMemIy _ _ => 23
  | .rrcR _ => 8
  | .rrcMemHl => 15
  | .rrcMemIx _ _ => 23
  | .rrcMemIy _ _ => 23
  | .rrR _ => 8
  | .rrMemHl => 15
  | .rrMemIx _ _ => 23
  | .rrMemIy _ _ => 23
  | .slaR _ => 8
  | .slaMemHl => 15
  | .slaMemIx _ _ => 23
  | .slaMemIy _ _ => 23
  | .sraR _ => 8
  | .sraMemHl => 15
  | .sraMemIx _ _ => 23
  | .sraMemIy _ _ => 23
  | .srlR _ => 8
  | .srlMemHl => 15
  | .srlMemIx _ _ => 23
  | .srlMemIy _ _ => 23
  | .sllR _ => 8
  | .sllMemHl => 15
  | .sllMemIx _ _ => 23
  | .sllMemIy _ _ => 23
  | .rld => 18
  | .rrd => 18
  | .bitR _ _ => 8
  | .bitMemHl _ => 12
  | .bitMemIx _ _ _ => 20
  | .bitMemIy _ _ _ => 20
  | .setR _ _ => 8
  | .setMemHl _ => 15
  | .setMemIx _ _ _ => 23
  | .setMemIy _ _ _ => 23
  | .resR _ _ => 8
  | .resMemHl _ => 15
  | .resMemIx _ _ _ => 23
  | .resMemIy _ _ _ => 23
  | .jpNn _ => 10
  | .jpCc _ _ => 10
  | .jr _ => 12
  | .jrCc cc _ => if s.cond cc then 12 else 7
  | .jpHl => 4
  | .jpIx => 8
  | .jpIy => 8
  | .djnz _ => if s.reg .b - 1 != 0 then 13 else 8
  | .callNn _ => 17
  | .callCc cc _ => if s.cond cc then 17 else 10
  | .ret => 10
  | .retCc cc => if s.cond cc then 11 else 5
  | .reti => 14
  | .retn _ => 14
  | .rst _ => 11
  | .inAN _ => 11
  | .inRC _ => 12
  | .inC => 12
  | .ini => 16
  | .inir => repeatT ((s.blockIn .up).reg .b != 0)
  | .ind => 16
  | .indr => repeatT ((s.blockIn .down).reg .b != 0)
  | .outNA _ => 11
  | .outCR _ => 12
  | .outC0 => 12
  | .outi => 16
  | .otir => repeatT ((s.blockOut .up).reg .b != 0)
  | .outd => 16
  | .otdr => repeatT ((s.blockOut .down).reg .b != 0)

/-- The T-states a step returns: 4 while halted (30_encoding.md R132), else the instruction's. -/
def stepT (s : State) : Nat := if s.halted then 4 else instrT s.fetchInstr (s.afterFetch s.fetchInstr)

/-- The T-states `interrupt(data)` returns (60_exceptions.md R639); nothing when the event is refused (R627). -/
def interruptT (data : Byte) (s : State) : Option Nat :=
  if s.iff1 then
    match s.im with
    | .im0 => if isOneByteOpcode data then some (2 + instrT (decodeBase data 0 0) s.acceptInt) else none
    | .im1 => some 13
    | .im2 => some 19
  else some 0

/-- The T-states `nmi()` returns (60_exceptions.md R639). -/
def nmiT : Nat := 11

end Sys2Proof.Machine
end

