-- ==== Sys2Proof/Safety.lean ====
section
/-! DEFINITION. The terms statements are made in: the invariant of the state's data, what an operation may change, what an
instruction does, and the end of a run (60_exceptions.md R660). -/

namespace Sys2Proof.Machine

/-! ### The invariant -/

/-- The state's data are in canonical form: memory lists rising addresses of the array and no byte 0x00, the I/O slots
list rising 8-bit ports (10_state.md R46), and MEM_SIZE is from 1 to 65536 (20_memory.md R70). -/
def State.Inv (s : State) : Prop :=
  s.mem.wf = true ∧ s.mem.below s.memSize = true ∧ slotsWf s.outSlots = true ∧ slotsWf s.inSlots = true
    ∧ 1 ≤ s.memSize ∧ s.memSize ≤ 65536

/-! ### What an operation may change -/

/-- A place of the state as a program or the host sees it (10_state.md R20, R47). -/
inductive Loc where
  | reg (r : Reg8)
  | flag (name : FlagName)
  | altReg (r : Reg8)
  | altF
  | ix | iy | sp | pc | regI | regR | iff1 | iff2 | im | halted | selAf | selGp
  | mem (a : Word)
  | rom
  | outSlot (q : Byte)
  | inSlot (q : Byte)
  | memSize | flagsProfile | draws
  deriving DecidableEq, Repr

/-- The place holds in `t` what it holds in `s`. -/
def Loc.sameAt (l : Loc) (s t : State) : Prop :=
  match l with
  | .reg r => t.reg r = s.reg r
  | .flag name => t.flag name = s.flag name
  | .altReg r => t.altReg r = s.altReg r
  | .altF => t.altF = s.altF
  | .ix => t.ix = s.ix
  | .iy => t.iy = s.iy
  | .sp => t.sp = s.sp
  | .pc => t.pc = s.pc
  | .regI => t.regI = s.regI
  | .regR => t.regR = s.regR
  | .iff1 => t.iff1 = s.iff1
  | .iff2 => t.iff2 = s.iff2
  | .im => t.im = s.im
  | .halted => t.halted = s.halted
  | .selAf => t.selAf = s.selAf
  | .selGp => t.selGp = s.selGp
  | .mem a => t.readByte a = s.readByte a
  | .rom => t.rom = s.rom
  | .outSlot q => t.outSlot q = s.outSlot q
  | .inSlot q => t.inSlot q = s.inSlot q
  | .memSize => t.memSize = s.memSize
  | .flagsProfile => t.flagsProfile = s.flagsProfile
  | .draws => t.draws = s.draws

/-- Every place that is not in `ls` holds in `t` what it holds in `s`: the frame of an operation that changes only
`ls`. Every byte of memory is a place of its own. -/
def State.SameBut (ls : List Loc) (s t : State) : Prop := ∀ l, l ∉ ls → l.sameAt s t

/-- Bank `k` with A and F of bank `b`. -/
def Bank.withAfOf (k b : Bank) : Bank := { k with a := b.a, f := b.f }

/-- `s` with other primed registers: every register of the bank that is not active, for the AF part and for the other six
each by its selector, is that of `k`, and nothing else is changed (10_state.md R21, R22). Two states that differ only in
their primed registers are `s` and `s.withPrimed k` for some `k`. -/
def State.withPrimed (s : State) (k : Bank) : State :=
  let afPart := if s.selAf then { s with bank0 := s.bank0.withAfOf k } else { s with bank1 := s.bank1.withAfOf k }
  if s.selGp then { afPart with bank0 := k.withAfOf afPart.bank0 } else { afPart with bank1 := k.withAfOf afPart.bank1 }

/-- The eight flags as places. -/
def Loc.flags : List Loc := [.flag .s, .flag .z, .flag .y, .flag .h, .flag .x, .flag .pv, .flag .n, .flag .c]

/-- The places a pair of the rp table writes (30_encoding.md R105). -/
def Loc.pair (p : Pair) : List Loc :=
  match p with
  | .bc => [.reg .b, .reg .c]
  | .de => [.reg .d, .reg .e]
  | .hl => [.reg .h, .reg .l]
  | .sp => [.sp]

/-- The places a pair of the rp2 table writes (30_encoding.md R105). -/
def Loc.stackPair (p : StackPair) : List Loc :=
  match p with
  | .bc => [.reg .b, .reg .c]
  | .de => [.reg .d, .reg .e]
  | .hl => [.reg .h, .reg .l]
  | .af => .reg .a :: Loc.flags

/-- The place of an index register (10_state.md R26). -/
def Loc.index (k : Index) : Loc :=
  match k with
  | .ix => .ix
  | .iy => .iy

/-! ### What an instruction does -/

/-- On `s`, the state its fetch left, `i` takes `cycles` T-states and completes in a state where `holds`, and changes
nothing outside `ls`. -/
def Does (i : Instr) (s : State) (cycles : Nat) (ls : List Loc) (holds : State → Prop) : Prop :=
  instrT i s = cycles ∧ ∃ t, exec i s = .next t ∧ holds t ∧ s.SameBut ls t

/-- What address `a` reads after the byte `v` was written to it in `s`: `v` where the write takes effect, and otherwise
what it read before (20_memory.md R73). -/
def State.stored (s : State) (a : Word) (v : Byte) : Byte := if s.writable a then v else s.readByte a

/-- In `t`, the word `v` has been pushed on the stack of `s`: SP is two lower, the high byte is at the higher address,
each byte written under the rule of a byte write (20_memory.md R88). -/
def State.Pushed (s : State) (v : Word) (t : State) : Prop :=
  t.sp = s.sp - 2 ∧ t.readByte (s.sp - 1) = s.stored (s.sp - 1) (hiByte v)
    ∧ t.readByte (s.sp - 2) = s.stored (s.sp - 2) (loByte v)

/-- The places a push writes (20_memory.md R88). -/
def State.pushLocs (s : State) : List Loc := [.sp, .mem (s.sp - 1), .mem (s.sp - 2)]

/-- The register copy of an indexed-bit form as places: none for the documented form (30_encoding.md R113). -/
def Loc.copy (z : Option Reg8) : List Loc :=
  match z with
  | none => []
  | some r => [.reg r]

/-! ### The end of a run (60_exceptions.md R660) -/

/-- The host's parameter RUN_END (R660). -/
inductive RunEnd where
  | budget (steps : Nat)
  | stopAt (a : Word)
  | haltedMasked
  deriving DecidableEq, Repr

/-- The run ends at this step boundary, `k` steps after its start (R660). DESIGN CHOICE (log entry 14): R660 does not say
whether the point before the first step is a step boundary; here it is one (`k = 0`), so a run whose PC starts at its stop
address, such as 0 at creation, ends before its first step. Unsafe. -/
def RunEnd.reached (e : RunEnd) (k : Nat) (s : State) : Bool :=
  match e with
  | .budget steps => steps ≤ k
  | .stopAt a => s.pc == a
  | .haltedMasked => s.halted && !s.iff1

end Sys2Proof.Machine
end

