-- ==== Sys2Proof/Certificates/Slice0/Obligations.lean ====
section
/-! DEFINITION. The statements made about the model, from the numbered rules of the spec. `exec` runs on the state the
fetch left: PC is the address after the instruction and R has counted its fetch cycles (log entry 4). -/

open Sys2Proof Sys2Proof.Machine

/-! ### Encoding -/

/-- Decoding the encoding of a well-formed instruction gives it back, with whatever bytes follow it. A DD or FD byte is
an instruction of its own only before a byte it does not affect (30_encoding.md R112), hence the second premise. -/
def Obligations.DecodeOfEncode : Prop :=
  ∀ (i : Instr) (rest : List Byte), i.wf = true →
    (∀ fd, i = .prefixIgnored fd → ∃ b more, rest = b :: more ∧ affected b = false) →
    decode (encode i ++ rest) = .ok (i, rest)

/-- What decodes is well formed, and its encoding is the bytes that were read: no bit of an encoding is dropped. -/
def Obligations.EncodeOfDecode : Prop :=
  ∀ (bs : List Byte) (i : Instr) (rest : List Byte), decode bs = .ok (i, rest) → i.wf = true ∧ encode i ++ rest = bs

/-- Any four bytes begin with exactly one instruction: it has the length rule R103 gives from the first two bytes, and
the fetch cycles rule R131 gives: two after CB, ED, or a DD or FD byte that affects its opcode, one otherwise. -/
def Obligations.LengthAndFetchCycles : Prop :=
  ∀ b0 b1 b2 b3 : Byte,
    decode [b0, b1, b2, b3] = .ok (decodeBytes b0 b1 b2 b3, [b0, b1, b2, b3].drop (lengthOf b0 b1))
    ∧ instrLength (decodeBytes b0 b1 b2 b3) = lengthOf b0 b1
    ∧ fetchCycles (decodeBytes b0 b1 b2 b3) =
      (if b0 = 0xCB ∨ b0 = 0xED ∨ ((b0 = 0xDD ∨ b0 = 0xFD) ∧ affected b1 = true) then 2 else 1)

/-- Words of the spec's examples decode to the instructions they stand for, one per family (a sanity statement). -/
def Obligations.DecodesSpecWords : Prop :=
  decode [0x50] = .ok (.ldRR .d .b, [])
  ∧ decode [0xDD, 0x46, 0x19] = .ok (.ldRIx .b 0x19, [])
  ∧ decode [0xED, 0x7B, 0x34, 0x12] = .ok (.ldDdMem .sp 0x1234, [])
  ∧ decode [0xED, 0xB0] = .ok (.ldir, [])
  ∧ decode [0xD6, 0x15] = .ok (.subN 0x15, [])
  ∧ decode [0xED, 0x5E] = .ok (.im2 false, [])
  ∧ decode [0xFD, 0x29] = .ok (.addIyRr .xy, [])
  ∧ decode [0xDD, 0xCB, 0x05, 0x38] = .ok (.srlMemIx 0x05 (some .b), [])
  ∧ decode [0xCB, 0x6C] = .ok (.bitR 5 .h, [])
  ∧ decode [0x38, 0xF0] = .ok (.jrCc .c 0xF0, [])
  ∧ decode [0xED, 0x71] = .ok (.outC0, [])

/-! ### The step -/

/-- A running core whose bytes at PC decode to `i` steps as `exec i` does on the state after the fetch: PC is the
address after the instruction, R has counted the fetch cycles, and nothing else has changed. -/
def Obligations.StepRunsDecodedInstruction : Prop :=
  ∀ (s : State) (i : Instr) (rest : List Byte), s.halted = false →
    decode [s.codeByte 0, s.codeByte 1, s.codeByte 2, s.codeByte 3] = .ok (i, rest) →
    step s = exec i (s.afterFetch i)
      ∧ (s.afterFetch i).pc = s.pc + BitVec.ofNat 16 (instrLength i)
      ∧ (s.afterFetch i).regR = refreshAfter s.regR (fetchCycles i)
      ∧ s.SameBut [.pc, .regR] (s.afterFetch i)

/-- Every step completes in a next state: no instruction faults or is refused (30_encoding.md R134, 60_exceptions.md
R620). -/
def Obligations.EveryStepCompletes : Prop := ∀ s : State, ∃ t, step s = .next t

/-- A halted step changes nothing but R, by one increment, and takes 4 T-states (30_encoding.md R132). -/
def Obligations.HaltedStepCountsRefreshOnly : Prop :=
  ∀ s : State, s.halted = true →
    stepT s = 4 ∧ ∃ t, step s = .next t ∧ t.halted = true ∧ t.regR = refreshAfter s.regR 1 ∧ s.SameBut [.regR] t

/-- Every step keeps the state's data in canonical form. -/
def Obligations.StepKeepsCanonicalData : Prop := ∀ s t : State, s.Inv → step s = .next t → t.Inv

/-- Every operation of the host keeps the state's data in canonical form (60_exceptions.md R661). -/
def Obligations.HostOperationsKeepCanonicalData : Prop :=
  ∀ (op : HostOp) (s t : State), s.Inv → perform op s = .next t → t.Inv

/-- The state at creation has its data in canonical form. -/
def Obligations.ResetIsCanonical : Prop := State.reset.Inv

/-- What creation leaves (10_state.md R49): every register and flag, both banks, every memory byte 0, bank 0 active,
interrupts disabled in mode 0, running, no ROM range, every slot empty. -/
def Obligations.CreationValues : Prop :=
  (∀ r, State.reset.reg r = 0 ∧ State.reset.altReg r = 0)
  ∧ State.reset.f = 0 ∧ State.reset.altF = 0 ∧ State.reset.selAf = false ∧ State.reset.selGp = false
  ∧ State.reset.ix = 0 ∧ State.reset.iy = 0 ∧ State.reset.sp = 0 ∧ State.reset.pc = 0
  ∧ State.reset.regI = 0 ∧ State.reset.regR = 0 ∧ State.reset.iff1 = false ∧ State.reset.iff2 = false
  ∧ State.reset.im = .im0 ∧ State.reset.halted = false ∧ State.reset.rom = none
  ∧ (∀ a, State.reset.readByte a = 0) ∧ ∀ q, State.reset.inSlot q = none ∧ State.reset.outSlot q = none

/-- R after a step (10_state.md R42, 30_encoding.md R131): its low seven bits have counted one fetch cycle while halted
and the instruction's otherwise, and bit 7 is unchanged, unless the instruction is LD R,A, which leaves A there. -/
def Obligations.RefreshRegisterCounts : Prop :=
  ∀ s t : State, step s = .next t →
    if s.halted = false ∧ s.fetchInstr = .ldRA then t.regR = s.reg .a
    else t.regR.getLsbD 7 = s.regR.getLsbD 7
      ∧ t.regR.toNat % 128 = (s.regR.toNat + if s.halted then 1 else fetchCycles s.fetchInstr) % 128

/-- No step but that of EX AF,AF' or EXX reaches a primed register (10_state.md R21, R23): the primed registers and the
selectors are not changed, and the primed registers are not read, since the step of the same state with any other primed
registers ends in the same state with those primed registers. A halted step runs no instruction. -/
def Obligations.OnlyExchangesReachPrimedRegisters : Prop :=
  ∀ s t : State, step s = .next t → s.halted = true ∨ (s.fetchInstr ≠ .exAfAf ∧ s.fetchInstr ≠ .exx) →
    (∀ r, t.altReg r = s.altReg r) ∧ t.altF = s.altF ∧ t.selAf = s.selAf ∧ t.selGp = s.selGp
    ∧ ∀ k : Bank, step (s.withPrimed k) = .next (t.withPrimed k)

/-- The writers of the control state among the instructions: IM only by IM 0, IM 1, IM 2 (10_state.md R44), I only by
LD I,A (R41), the flip-flops only by DI, EI, RETI, RETN (R43), the halt latch only by HALT (R45). The ROM range,
MEM_SIZE, FLAGS_PROFILE and the input slots are written by none. -/
def Obligations.WritersOfControlState : Prop :=
  ∀ s t : State, step s = .next t →
    (t.im = s.im ∨ (∃ m k, s.fetchInstr = .im0 m k) ∨ (∃ m, s.fetchInstr = .im1 m) ∨ ∃ m, s.fetchInstr = .im2 m)
    ∧ (t.regI = s.regI ∨ s.fetchInstr = .ldIA)
    ∧ ((t.iff1 = s.iff1 ∧ t.iff2 = s.iff2) ∨ s.fetchInstr = .di ∨ s.fetchInstr = .ei ∨ s.fetchInstr = .reti
      ∨ ∃ m, s.fetchInstr = .retn m)
    ∧ (t.halted = s.halted ∨ s.fetchInstr = .halt)
    ∧ t.rom = s.rom ∧ t.memSize = s.memSize ∧ t.flagsProfile = s.flagsProfile ∧ t.inSlots = s.inSlots

/-- No step changes a byte inside the ROM range, nor does a byte or word write of the host (20_memory.md R73, R75). -/
def Obligations.RomBytesNeverChange : Prop :=
  ∀ (s : State) (a : Word), s.inRom a = true →
    (∀ t, step s = .next t → t.readByte a = s.readByte a)
    ∧ ∀ b v w, (s.poke (.mem b v)).readByte a = s.readByte a ∧ (s.hostWriteWord b w).readByte a = s.readByte a

/-! ### Memory -/

/-- A byte read (20_memory.md R72) past MEM_SIZE gives 0x00; a byte write (R73) takes effect inside the array and outside
the ROM range, and is dropped elsewhere; it changes no other address and no other place of the state. -/
def Obligations.ByteReadsAndWrites : Prop :=
  ∀ (s : State) (a : Word) (v : Byte),
    (s.memSize ≤ a.toNat → s.readByte a = 0) ∧ (a.toNat < s.memSize → s.readByte a = s.mem.get a.toNat)
    ∧ (s.writeByte a v).readByte a =
      (if s.memSize ≤ a.toNat then 0
       else match s.rom with
         | none => v
         | some (first, last) => if first.toNat ≤ a.toNat ∧ a.toNat ≤ last.toNat then s.readByte a else v)
    ∧ s.SameBut [.mem a] (s.writeByte a v)

/-- The word accessors (20_memory.md R76 to R78): where both bytes are writable a word written is read back, and
`read_le_word` gives its bytes swapped; `read_dword` is two words, the upper one at the higher address. -/
def Obligations.WordAccessors : Prop :=
  ∀ (s : State) (a v : Word),
    (s.writable a = true → s.writable (a + 1) = true →
      (s.hostWriteWord a v).hostReadWord a = v
        ∧ (s.hostWriteWord a v).hostReadLeWord a = joinBytes (loByte v) (hiByte v))
    ∧ (s.hostWriteWord a v).readByte a = s.stored a (loByte v)
    ∧ (s.hostWriteWord a v).readByte (a + 1) = s.stored (a + 1) (hiByte v)
    ∧ s.SameBut [.mem a, .mem (a + 1)] (s.hostWriteWord a v)
    ∧ s.hostReadWord a = s.readByte (a + 1) ++ s.readByte a
    ∧ s.hostReadLeWord a = s.readByte a ++ s.readByte (a + 1)
    ∧ s.hostReadDword a = s.hostReadWord (a + 2) ++ s.hostReadWord a

/-- Push16 (20_memory.md R88) and Pop16 (R89): what a push leaves, and that a pop after it gives the word back and
restores SP, where both bytes are writable. -/
def Obligations.PushThenPop : Prop :=
  ∀ (s : State) (v : Word),
    s.Pushed v (s.push16 v) ∧ s.SameBut s.pushLocs (s.push16 v)
    ∧ (s.push16 v).dropTop.sp = s.sp
    ∧ (s.writable (s.sp - 1) = true → s.writable (s.sp - 2) = true → (s.push16 v).top = v)
    ∧ s.top = s.readByte (s.sp + 1) ++ s.readByte s.sp ∧ s.dropTop.sp = s.sp + 2

/-- `load` (20_memory.md R80) copies all bytes or none, is not bound by the ROM range, and changes no register. An
image that does not fit is the refusal load-overflow (00_scope.md R11). That a byte source that cannot be read, which R80
calls io-error, ends in the fault `ioError` is the model's choice of outcome (log entry 9). -/
def Obligations.LoadIsAllOrNothing : Prop :=
  ∀ (s : State) (bytes : List Byte) (origin : Word),
    load none origin s = .fault .ioError
    ∧ (s.memSize < origin.toNat + bytes.length → load (some bytes) origin s = .refused .loadOverflow)
    ∧ (s.memSize ≤ 65536 → origin.toNat + bytes.length ≤ s.memSize → ∃ t, load (some bytes) origin s = .next t
      ∧ (∀ k v, bytes[k]? = some v → t.readByte (origin + BitVec.ofNat 16 k) = v)
      ∧ ∀ l : Loc, (∀ k, k < bytes.length → l ≠ .mem (origin + BitVec.ofNat 16 k)) → l.sameAt s t)

/-! ### Flags -/

/-- The flag byte (10_state.md R29, R30): to-byte and from-byte are inverses, and POP AF then PUSH AF gives every byte
back, Y and X included: SP and memory are as before, and A and F hold the word that was on the stack. -/
def Obligations.FlagByteRoundTrip : Prop :=
  (∀ v : Byte, (Flags.ofByte v).toByte = v)
  ∧ ∀ s : State, ∃ t u, exec (.popQq .af) s = .next t ∧ exec (.pushQq .af) t = .next u
    ∧ u.af = s.top ∧ s.SameBut (.reg .a :: Loc.flags) u

/-- Add8 (10_state.md R33) and Sub8 (R34) against exact arithmetic: the result modulo 256, carry, half carry, and
overflow as the signed sum or difference leaving -128 to 127. -/
def Obligations.AddSubtractFlags : Prop :=
  ∀ (a b : Byte) (c : Bool),
    ((add8 a b c).1.toNat = (a.toNat + b.toNat + bitNat c) % 256
      ∧ ((add8 a b c).2.c = true ↔ 256 ≤ a.toNat + b.toNat + bitNat c)
      ∧ ((add8 a b c).2.h = true ↔ 16 ≤ a.toNat % 16 + b.toNat % 16 + bitNat c)
      ∧ ((add8 a b c).2.pv = true ↔ a.toInt + b.toInt + bitNat c < -128 ∨ 127 < a.toInt + b.toInt + bitNat c)
      ∧ ((add8 a b c).2.z = true ↔ (add8 a b c).1 = 0) ∧ ((add8 a b c).2.s = true ↔ (add8 a b c).1.toInt < 0)
      ∧ (add8 a b c).2.n = false
      ∧ (add8 a b c).2.y = (add8 a b c).1.getLsbD 5 ∧ (add8 a b c).2.x = (add8 a b c).1.getLsbD 3)
    ∧ ((sub8 a b c).1.toNat = (a.toNat + 512 - b.toNat - bitNat c) % 256
      ∧ ((sub8 a b c).2.c = true ↔ a.toNat < b.toNat + bitNat c)
      ∧ ((sub8 a b c).2.h = true ↔ a.toNat % 16 < b.toNat % 16 + bitNat c)
      ∧ ((sub8 a b c).2.pv = true ↔ a.toInt - b.toInt - bitNat c < -128 ∨ 127 < a.toInt - b.toInt - bitNat c)
      ∧ ((sub8 a b c).2.z = true ↔ (sub8 a b c).1 = 0) ∧ ((sub8 a b c).2.s = true ↔ (sub8 a b c).1.toInt < 0)
      ∧ (sub8 a b c).2.n = true
      ∧ (sub8 a b c).2.y = (sub8 a b c).1.getLsbD 5 ∧ (sub8 a b c).2.x = (sub8 a b c).1.getLsbD 3)

/-- Parity (10_state.md R32), the logical class (R35, R36) and INC and DEC (R37): the last two are Add8 and Sub8 of 1 with
C kept. -/
def Obligations.LogicAndIncrementFlags : Prop :=
  (∀ r : Byte, (parity r = true ↔ (List.range 8).countP (fun k => decide (r.toNat / 2 ^ k % 2 = 1)) % 2 = 0))
  ∧ (∀ a b : Byte,
      and8 a b = (a &&& b, ⟨(a &&& b).getLsbD 7, decide (a &&& b = 0), (a &&& b).getLsbD 5, true, (a &&& b).getLsbD 3,
        parity (a &&& b), false, false⟩)
      ∧ or8 a b = (a ||| b, ⟨(a ||| b).getLsbD 7, decide (a ||| b = 0), (a ||| b).getLsbD 5, false,
        (a ||| b).getLsbD 3, parity (a ||| b), false, false⟩)
      ∧ xor8 a b = (a ^^^ b, ⟨(a ^^^ b).getLsbD 7, decide (a ^^^ b = 0), (a ^^^ b).getLsbD 5, false,
        (a ^^^ b).getLsbD 3, parity (a ^^^ b), false, false⟩))
  ∧ ∀ (v : Byte) (old : Flags),
      inc8 v old = ((add8 v 1 false).1, { (add8 v 1 false).2 with c := old.c })
      ∧ dec8 v old = ((sub8 v 1 false).1, { (sub8 v 1 false).2 with c := old.c })

/-- The 16-bit functions (10_state.md R38) against exact arithmetic: Add16 writes H and C only under the source profile
and N, Y, X too under nmos; Adc16 and Sbc16 write every flag. -/
def Obligations.SixteenBitFlags : Prop :=
  ∀ (a b : Word) (c : Bool) (old : Flags),
    let h := decide (4096 ≤ a.toNat % 4096 + b.toNat % 4096)
    let k := decide (65536 ≤ a.toNat + b.toNat)
    add16 .source a b old = (a + b, { old with h := h, c := k })
    ∧ add16 .nmos a b old =
      (a + b, { old with h := h, c := k, n := false, y := (a + b).getLsbD 13, x := (a + b).getLsbD 11 })
    ∧ ((adc16 a b c).1.toNat = (a.toNat + b.toNat + bitNat c) % 65536
      ∧ ((adc16 a b c).2.c = true ↔ 65536 ≤ a.toNat + b.toNat + bitNat c)
      ∧ ((adc16 a b c).2.h = true ↔ 4096 ≤ a.toNat % 4096 + b.toNat % 4096 + bitNat c)
      ∧ ((adc16 a b c).2.pv = true ↔
          a.toInt + b.toInt + bitNat c < -32768 ∨ 32767 < a.toInt + b.toInt + bitNat c)
      ∧ ((adc16 a b c).2.z = true ↔ (adc16 a b c).1 = 0) ∧ ((adc16 a b c).2.s = true ↔ (adc16 a b c).1.toInt < 0)
      ∧ (adc16 a b c).2.n = false
      ∧ (adc16 a b c).2.y = (adc16 a b c).1.getLsbD 13 ∧ (adc16 a b c).2.x = (adc16 a b c).1.getLsbD 11)
    ∧ ((sbc16 a b c).1.toNat = (a.toNat + 131072 - b.toNat - bitNat c) % 65536
      ∧ ((sbc16 a b c).2.c = true ↔ a.toNat < b.toNat + bitNat c)
      ∧ ((sbc16 a b c).2.h = true ↔ a.toNat % 4096 < b.toNat % 4096 + bitNat c)
      ∧ ((sbc16 a b c).2.pv = true ↔
          a.toInt - b.toInt - bitNat c < -32768 ∨ 32767 < a.toInt - b.toInt - bitNat c)
      ∧ ((sbc16 a b c).2.z = true ↔ (sbc16 a b c).1 = 0) ∧ ((sbc16 a b c).2.s = true ↔ (sbc16 a b c).1.toInt < 0)
      ∧ (sbc16 a b c).2.n = true
      ∧ (sbc16 a b c).2.y = (sbc16 a b c).1.getLsbD 13 ∧ (sbc16 a b c).2.x = (sbc16 a b c).1.getLsbD 11)

/-- The rotates and shifts (46_rotate_shift.md R474) as rotations and shifts of a byte, with the bit shifted out, and the
flags every one of them sets (10_state.md R39). -/
def Obligations.RotateAndShiftTable : Prop :=
  ∀ (v : Byte) (cin : Bool),
    rot .rlc v cin = (v.rotateLeft 1, v.msb) ∧ rot .rrc v cin = (v.rotateRight 1, v.getLsbD 0)
    ∧ rot .rl v cin = ((v <<< 1) ||| (BitVec.ofBool cin).setWidth 8, v.msb)
    ∧ rot .rr v cin = ((v >>> 1) ||| ((BitVec.ofBool cin).setWidth 8 <<< 7), v.getLsbD 0)
    ∧ rot .sla v cin = (v <<< 1, v.msb) ∧ rot .sra v cin = (v.sshiftRight 1, v.getLsbD 0)
    ∧ rot .sll v cin = ((v <<< 1) ||| 1, v.msb) ∧ rot .srl v cin = (v >>> 1, v.getLsbD 0)
    ∧ ∀ op, rotate op v cin =
      ((rot op v cin).1, ⟨(rot op v cin).1.msb, decide ((rot op v cin).1 = 0), (rot op v cin).1.getLsbD 5, false,
        (rot op v cin).1.getLsbD 3, parity (rot op v cin).1, false, (rot op v cin).2⟩)

/-- DAA makes decimal arithmetic of two-digit numbers right: after an addition of packed decimal digits with a carry it
gives the decimal sum and the decimal carry, after a subtraction the decimal difference and the decimal borrow
(44_control.md R420). A byte whose digits are not decimal is outside this statement. -/
def Obligations.DecimalAdjustIsDecimal : Prop :=
  ∀ (a b : Byte) (c : Bool),
    a.toNat / 16 ≤ 9 → a.toNat % 16 ≤ 9 → b.toNat / 16 ≤ 9 → b.toNat % 16 ≤ 9 →
    let value := fun v : Byte => v.toNat / 16 * 10 + v.toNat % 16
    let sum := daaAdjust (add8 a b c).1 (add8 a b c).2
    let diff := daaAdjust (sub8 a b c).1 (sub8 a b c).2
    value sum.1 + 100 * bitNat sum.2.c = value a + value b + bitNat c
    ∧ sum.1.toNat / 16 ≤ 9 ∧ sum.1.toNat % 16 ≤ 9
    ∧ value diff.1 + value b + bitNat c = value a + 100 * bitNat diff.2.c
    ∧ diff.1.toNat / 16 ≤ 9 ∧ diff.1.toNat % 16 ≤ 9

/-- ADD A,n then SUB n restores A and leaves N set, and C set exactly when the addition carried (95_test_vectors.md S1,
90_conflicts.md C7). -/
def Obligations.AddThenSubtractRestores : Prop :=
  ∀ (s : State) (n : Byte), ∃ t u, exec (.addN n) s = .next t ∧ exec (.subN n) t = .next u
    ∧ u.reg .a = s.reg .a ∧ u.flag .n = true ∧ (u.flag .c = true ↔ 256 ≤ (s.reg .a).toNat + n.toNat)
    ∧ s.SameBut Loc.flags u

/-- The condition codes (10_state.md R40). -/
def Obligations.ConditionCodes : Prop :=
  ∀ s : State,
    s.cond .nz = !s.flag .z ∧ s.cond .z = s.flag .z ∧ s.cond .nc = !s.flag .c ∧ s.cond .c = s.flag .c
    ∧ s.cond .po = !s.flag .pv ∧ s.cond .pe = s.flag .pv ∧ s.cond .p = !s.flag .s ∧ s.cond .m = s.flag .s

/-! ### 8-bit loads -/

/-- The loads of a register (40_load8.md R200 to R204, R211 to R213, R221, R225): the destination holds the source, and
nothing else changes. -/
def Obligations.LoadsOfRegisters : Prop :=
  ∀ (s : State) (dst src : Reg8) (n d : Byte) (nn : Word) (g : Half),
    Does (.ldRR dst src) s 4 [.reg dst] (fun t => t.reg dst = s.reg src)
    ∧ Does (.ldRN dst n) s 7 [.reg dst] (fun t => t.reg dst = n)
    ∧ Does (.ldRHl dst) s 7 [.reg dst] (fun t => t.reg dst = s.readByte s.hl)
    ∧ Does (.ldRIx dst d) s 19 [.reg dst] (fun t => t.reg dst = s.readByte (s.ix + d.signExtend 16))
    ∧ Does (.ldRIy dst d) s 19 [.reg dst] (fun t => t.reg dst = s.readByte (s.iy + d.signExtend 16))
    ∧ Does .ldABc s 7 [.reg .a] (fun t => t.reg .a = s.readByte s.bc)
    ∧ Does .ldADe s 7 [.reg .a] (fun t => t.reg .a = s.readByte s.de)
    ∧ Does (.ldANn nn) s 13 [.reg .a] (fun t => t.reg .a = s.readByte nn)
    ∧ Does (.ldRIxHalf dst g) s 8 [.reg dst] (fun t => t.reg dst = s.half .ix g)
    ∧ Does (.ldRIyHalf dst g) s 8 [.reg dst] (fun t => t.reg dst = s.half .iy g)

/-- The stores of a byte (40_load8.md R205 to R210, R214 to R216): the byte at the stated address, under the rule of a byte
write, and nothing else. -/
def Obligations.StoresOfBytes : Prop :=
  ∀ (s : State) (src : Reg8) (n d : Byte) (nn : Word),
    let stores := fun (i : Instr) (cycles : Nat) (a : Word) (v : Byte) =>
      Does i s cycles [.mem a] (fun t => t.readByte a = s.stored a v)
    stores (.ldHlR src) 7 s.hl (s.reg src)
    ∧ stores (.ldIxR d src) 19 (s.ix + d.signExtend 16) (s.reg src)
    ∧ stores (.ldIyR d src) 19 (s.iy + d.signExtend 16) (s.reg src)
    ∧ stores (.ldHlN n) 10 s.hl n
    ∧ stores (.ldIxN d n) 19 (s.ix + d.signExtend 16) n
    ∧ stores (.ldIyN d n) 19 (s.iy + d.signExtend 16) n
    ∧ stores .ldBcA 7 s.bc (s.reg .a)
    ∧ stores .ldDeA 7 s.de (s.reg .a)
    ∧ stores (.ldNnA nn) 13 nn (s.reg .a)

/-- The loads of a half of IX or IY (40_load8.md R222 to R224, R226 to R228): the half holds the source, the other half is
unchanged, and nothing else changes. -/
def Obligations.LoadsOfIndexHalves : Prop :=
  ∀ (s : State) (g h : Half) (src : Reg8) (n : Byte),
    let loads := fun (i : Instr) (cycles : Nat) (k : Index) (v : Byte) =>
      Does i s cycles [Loc.index k]
        (fun t => t.half k g = v ∧ ∀ other, other ≠ g → t.half k other = s.half k other)
    loads (.ldIxHalfR g src) 8 .ix (s.reg src) ∧ loads (.ldIyHalfR g src) 8 .iy (s.reg src)
    ∧ loads (.ldIxHalfHalf g h) 8 .ix (s.half .ix h) ∧ loads (.ldIyHalfHalf g h) 8 .iy (s.half .iy h)
    ∧ loads (.ldIxHalfN g n) 11 .ix n ∧ loads (.ldIyHalfN g n) 11 .iy n

/-- The loads of I and R (40_load8.md R217 to R220). LD A,R reads R after its own fetch cycles and LD R,A writes it after
them: `s` is the state after the fetch. -/
def Obligations.LoadsOfInterruptAndRefresh : Prop :=
  ∀ s : State,
    let toA := fun (i : Instr) (v : Byte) =>
      Does i s 9 (.reg .a :: Loc.flags) (fun t => t.reg .a = v
        ∧ t.flags = { s := v.getLsbD 7, z := decide (v = 0), y := v.getLsbD 5, h := false, x := v.getLsbD 3,
                      pv := s.iff2, n := false, c := s.flag .c })
    toA .ldAI s.regI ∧ toA .ldAR s.regR
    ∧ Does .ldIA s 9 [.regI] (fun t => t.regI = s.reg .a)
    ∧ Does .ldRA s 9 [.regR] (fun t => t.regR = s.reg .a)

/-! ### 16-bit loads -/

/-- The loads of a register pair, an index register or SP (41_load16.md R260 to R266, R271 to R273). -/
def Obligations.LoadsOfPairs : Prop :=
  ∀ (s : State) (dd : Pair) (nn : Word),
    Does (.ldDdNn dd nn) s 10 (Loc.pair dd) (fun t => t.pair dd = nn)
    ∧ Does (.ldIxNn nn) s 14 [.ix] (fun t => t.ix = nn)
    ∧ Does (.ldIyNn nn) s 14 [.iy] (fun t => t.iy = nn)
    ∧ Does (.ldHlMem nn) s 16 [.reg .h, .reg .l]
        (fun t => t.reg .l = s.readByte nn ∧ t.reg .h = s.readByte (nn + 1))
    ∧ Does (.ldDdMem dd nn) s 20 (Loc.pair dd) (fun t => t.pair dd = s.readByte (nn + 1) ++ s.readByte nn)
    ∧ Does (.ldIxMem nn) s 20 [.ix] (fun t => t.ix = s.readByte (nn + 1) ++ s.readByte nn)
    ∧ Does (.ldIyMem nn) s 20 [.iy] (fun t => t.iy = s.readByte (nn + 1) ++ s.readByte nn)
    ∧ Does .ldSpHl s 6 [.sp] (fun t => t.sp = s.hl)
    ∧ Does .ldSpIx s 10 [.sp] (fun t => t.sp = s.ix)
    ∧ Does .ldSpIy s 10 [.sp] (fun t => t.sp = s.iy)

/-- The stores of a word (41_load16.md R267 to R270): the low byte at nn and the high byte at nn + 1, each under the rule of
a byte write, and nothing else. -/
def Obligations.StoresOfWords : Prop :=
  ∀ (s : State) (nn : Word) (dd : Pair),
    let stores := fun (i : Instr) (cycles : Nat) (v : Word) =>
      Does i s cycles [.mem nn, .mem (nn + 1)] (fun t =>
        t.readByte nn = s.stored nn (v.setWidth 8) ∧ t.readByte (nn + 1) = s.stored (nn + 1) ((v >>> 8).setWidth 8))
    stores (.ldMemHl nn) 16 s.hl ∧ stores (.ldMemDd nn dd) 20 (s.pair dd)
    ∧ stores (.ldMemIx nn) 20 s.ix ∧ stores (.ldMemIy nn) 20 s.iy

/-- PUSH (41_load16.md R274 to R276): the pair is pushed, and nothing else changes. PUSH AF stores all eight bits of F. -/
def Obligations.Pushes : Prop :=
  ∀ (s : State) (qq : StackPair),
    Does (.pushQq qq) s 11 s.pushLocs (s.Pushed (match qq with | .bc => s.bc | .de => s.de | .hl => s.hl | .af => s.af))
    ∧ Does .pushIx s 15 s.pushLocs (s.Pushed s.ix)
    ∧ Does .pushIy s 15 s.pushLocs (s.Pushed s.iy)

/-- POP (41_load16.md R277 to R279): the pair holds the low byte at SP and the high byte at SP + 1, SP is two higher, and
nothing else changes. POP AF loads all eight bits of F. -/
def Obligations.Pops : Prop :=
  ∀ (s : State) (qq : StackPair),
    Does (.popQq qq) s 10 (.sp :: Loc.stackPair qq)
      (fun t => t.stackPair qq = s.readByte (s.sp + 1) ++ s.readByte s.sp ∧ t.sp = s.sp + 2)
    ∧ Does .popIx s 14 [.sp, .ix] (fun t => t.ix = s.readByte (s.sp + 1) ++ s.readByte s.sp ∧ t.sp = s.sp + 2)
    ∧ Does .popIy s 14 [.sp, .iy] (fun t => t.iy = s.readByte (s.sp + 1) ++ s.readByte s.sp ∧ t.sp = s.sp + 2)

/-! ### Exchanges and block instructions -/

/-- EX DE,HL, EX AF,AF' and EXX (42_exchange_block.md R300 to R302): what changes places, and that nothing else
changes. -/
def Obligations.RegisterExchanges : Prop :=
  ∀ s : State,
    Does .exDeHl s 4 [.reg .d, .reg .e, .reg .h, .reg .l] (fun t => t.de = s.hl ∧ t.hl = s.de)
    ∧ Does .exAfAf s 4 (.selAf :: .reg .a :: .altReg .a :: .altF :: Loc.flags)
        (fun t => t.selAf = (!s.selAf) ∧ t.reg .a = s.altReg .a ∧ t.altReg .a = s.reg .a ∧ t.f = s.altF ∧ t.altF = s.f)
    ∧ Does .exx s 4 (.selGp :: ([.b, .c, .d, .e, .h, .l] : List Reg8).flatMap (fun r => [.reg r, .altReg r]))
        (fun t => t.selGp = (!s.selGp) ∧ ∀ r, r ≠ .a → t.reg r = s.altReg r ∧ t.altReg r = s.reg r)

/-- EX (SP),HL, EX (SP),IX and EX (SP),IY (42_exchange_block.md R303 to R305): the register holds the old word at SP, the
two bytes at SP hold the old register where they are writable, SP is unchanged. -/
def Obligations.StackExchanges : Prop :=
  ∀ s : State,
    let exchanges := fun (i : Instr) (cycles : Nat) (ls : List Loc) (get : State → Word) =>
      Does i s cycles (.mem s.sp :: .mem (s.sp + 1) :: ls) (fun t =>
        get t = s.readByte (s.sp + 1) ++ s.readByte s.sp
        ∧ t.readByte s.sp = s.stored s.sp ((get s).setWidth 8)
        ∧ t.readByte (s.sp + 1) = s.stored (s.sp + 1) ((get s >>> 8).setWidth 8))
    exchanges .exSpHl 19 [.reg .h, .reg .l] State.hl
    ∧ exchanges .exSpIx 23 [.ix] State.ix ∧ exchanges .exSpIy 23 [.iy] State.iy

/-- LDI, LDIR, LDD and LDDR (42_exchange_block.md R306 to R310): one byte moved, the pointers stepped, BC counted down, the
flags of R307, and for the repeating forms PC held on the instruction while BC is not 0. -/
def Obligations.BlockTransfers : Prop :=
  ∀ s : State,
    let v := s.readByte s.hl
    let left := s.bc - 1
    let k := v + s.reg .a
    let moves := fun (i : Instr) (delta : Word) (again : Bool) =>
      Does i s (if again then 21 else 16)
        [.mem s.de, .reg .b, .reg .c, .reg .d, .reg .e, .reg .h, .reg .l, .pc,
          .flag .y, .flag .h, .flag .x, .flag .pv, .flag .n]
        (fun t => t.readByte s.de = s.stored s.de v ∧ t.hl = s.hl + delta ∧ t.de = s.de + delta ∧ t.bc = left
          ∧ t.flag .h = false ∧ t.flag .n = false ∧ t.flag .pv = decide (left ≠ 0)
          ∧ t.flag .y = k.getLsbD 1 ∧ t.flag .x = k.getLsbD 3
          ∧ t.pc = if again then s.pc - 2 else s.pc)
    moves .ldi 1 false ∧ moves .ldir 1 (decide (left ≠ 0)) ∧ moves .ldd (-1) false
    ∧ moves .lddr (-1) (decide (left ≠ 0))

/-- CPI, CPIR, CPD and CPDR (42_exchange_block.md R306, R311 to R314): A is compared with the byte at HL and not changed,
HL is stepped, BC counted down, the flags of R311, and for the repeating forms PC held on the instruction while BC is not
0 and there is no match. -/
def Obligations.BlockSearches : Prop :=
  ∀ s : State,
    let v := s.readByte s.hl
    let left := s.bc - 1
    let r := s.reg .a - v
    let h := decide ((s.reg .a).toNat % 16 < v.toNat % 16)
    let k := if h then r - 1 else r
    let searches := fun (i : Instr) (delta : Word) (again : Bool) =>
      Does i s (if again then 21 else 16) (.reg .b :: .reg .c :: .reg .h :: .reg .l :: .pc :: Loc.flags)
        (fun t => t.hl = s.hl + delta ∧ t.bc = left
          ∧ t.flags = { s := r.getLsbD 7, z := decide (r = 0), y := k.getLsbD 1, h := h, x := k.getLsbD 3,
                        pv := decide (left ≠ 0), n := true, c := s.flag .c }
          ∧ t.pc = if again then s.pc - 2 else s.pc)
    searches .cpi 1 false ∧ searches .cpir 1 (decide (left ≠ 0 ∧ s.reg .a ≠ v))
    ∧ searches .cpd (-1) false ∧ searches .cpdr (-1) (decide (left ≠ 0 ∧ s.reg .a ≠ v))

/-! ### 8-bit arithmetic and logic -/

/-- ADD A,v and ADC A,v in their seven operand forms (43_alu8.md R338, R340 to R353): A and F are Add8 of A, the operand and
the carry in, and nothing else changes. -/
def Obligations.Additions : Prop :=
  ∀ (s : State) (r : Reg8) (n d : Byte) (g : Half),
    let sums := fun (i : Instr) (cycles : Nat) (v : Byte) (c : Bool) =>
      Does i s cycles (.reg .a :: Loc.flags)
        (fun t => t.reg .a = (add8 (s.reg .a) v c).1 ∧ t.flags = (add8 (s.reg .a) v c).2)
    sums (.addR r) 4 (s.reg r) false ∧ sums (.addN n) 7 n false ∧ sums .addMemHl 7 (s.readByte s.hl) false
    ∧ sums (.addMemIx d) 19 (s.readByte (s.ix + d.signExtend 16)) false
    ∧ sums (.addMemIy d) 19 (s.readByte (s.iy + d.signExtend 16)) false
    ∧ sums (.addIxHalf g) 8 (s.half .ix g) false ∧ sums (.addIyHalf g) 8 (s.half .iy g) false
    ∧ sums (.adcR r) 4 (s.reg r) (s.flag .c) ∧ sums (.adcN n) 7 n (s.flag .c)
    ∧ sums .adcMemHl 7 (s.readByte s.hl) (s.flag .c)
    ∧ sums (.adcMemIx d) 19 (s.readByte (s.ix + d.signExtend 16)) (s.flag .c)
    ∧ sums (.adcMemIy d) 19 (s.readByte (s.iy + d.signExtend 16)) (s.flag .c)
    ∧ sums (.adcIxHalf g) 8 (s.half .ix g) (s.flag .c) ∧ sums (.adcIyHalf g) 8 (s.half .iy g) (s.flag .c)

/-- SUB v and SBC A,v in their seven operand forms (43_alu8.md R338, R354 to R367): A and F are Sub8 of A, the operand and
the borrow in, and nothing else changes. -/
def Obligations.Subtractions : Prop :=
  ∀ (s : State) (r : Reg8) (n d : Byte) (g : Half),
    let differences := fun (i : Instr) (cycles : Nat) (v : Byte) (c : Bool) =>
      Does i s cycles (.reg .a :: Loc.flags)
        (fun t => t.reg .a = (sub8 (s.reg .a) v c).1 ∧ t.flags = (sub8 (s.reg .a) v c).2)
    differences (.subR r) 4 (s.reg r) false ∧ differences (.subN n) 7 n false
    ∧ differences .subMemHl 7 (s.readByte s.hl) false
    ∧ differences (.subMemIx d) 19 (s.readByte (s.ix + d.signExtend 16)) false
    ∧ differences (.subMemIy d) 19 (s.readByte (s.iy + d.signExtend 16)) false
    ∧ differences (.subIxHalf g) 8 (s.half .ix g) false ∧ differences (.subIyHalf g) 8 (s.half .iy g) false
    ∧ differences (.sbcR r) 4 (s.reg r) (s.flag .c) ∧ differences (.sbcN n) 7 n (s.flag .c)
    ∧ differences .sbcMemHl 7 (s.readByte s.hl) (s.flag .c)
    ∧ differences (.sbcMemIx d) 19 (s.readByte (s.ix + d.signExtend 16)) (s.flag .c)
    ∧ differences (.sbcMemIy d) 19 (s.readByte (s.iy + d.signExtend 16)) (s.flag .c)
    ∧ differences (.sbcIxHalf g) 8 (s.half .ix g) (s.flag .c)
    ∧ differences (.sbcIyHalf g) 8 (s.half .iy g) (s.flag .c)

/-- AND, OR and XOR in their seven operand forms (43_alu8.md R338, R368 to R388): A is the bitwise result, S, Z, Y, X and PV
come from it, N and C are 0, H is 1 for AND and 0 for the others, and nothing else changes. -/
def Obligations.LogicalOperations : Prop :=
  ∀ (s : State) (r : Reg8) (n d : Byte) (g : Half),
    let logic := fun (i : Instr) (cycles : Nat) (h : Bool) (res : Byte) =>
      Does i s cycles (.reg .a :: Loc.flags) (fun t => t.reg .a = res
        ∧ t.flags = { s := res.getLsbD 7, z := decide (res = 0), y := res.getLsbD 5, h := h, x := res.getLsbD 3,
                      pv := parity res, n := false, c := false })
    let a := s.reg .a
    let mx := s.readByte (s.ix + d.signExtend 16)
    let my := s.readByte (s.iy + d.signExtend 16)
    logic (.andR r) 4 true (a &&& s.reg r) ∧ logic (.andN n) 7 true (a &&& n)
    ∧ logic .andMemHl 7 true (a &&& s.readByte s.hl)
    ∧ logic (.andMemIx d) 19 true (a &&& mx) ∧ logic (.andMemIy d) 19 true (a &&& my)
    ∧ logic (.andIxHalf g) 8 true (a &&& s.half .ix g) ∧ logic (.andIyHalf g) 8 true (a &&& s.half .iy g)
    ∧ logic (.orR r) 4 false (a ||| s.reg r) ∧ logic (.orN n) 7 false (a ||| n)
    ∧ logic .orMemHl 7 false (a ||| s.readByte s.hl)
    ∧ logic (.orMemIx d) 19 false (a ||| mx) ∧ logic (.orMemIy d) 19 false (a ||| my)
    ∧ logic (.orIxHalf g) 8 false (a ||| s.half .ix g) ∧ logic (.orIyHalf g) 8 false (a ||| s.half .iy g)
    ∧ logic (.xorR r) 4 false (a ^^^ s.reg r) ∧ logic (.xorN n) 7 false (a ^^^ n)
    ∧ logic .xorMemHl 7 false (a ^^^ s.readByte s.hl)
    ∧ logic (.xorMemIx d) 19 false (a ^^^ mx) ∧ logic (.xorMemIy d) 19 false (a ^^^ my)
    ∧ logic (.xorIxHalf g) 8 false (a ^^^ s.half .ix g) ∧ logic (.xorIyHalf g) 8 false (a ^^^ s.half .iy g)

/-- CP in its seven operand forms (43_alu8.md R389 to R395): the flags of Sub8 with Y and X from the operand; A and everything
else unchanged. -/
def Obligations.Compares : Prop :=
  ∀ (s : State) (r : Reg8) (n d : Byte) (g : Half),
    let compares := fun (i : Instr) (cycles : Nat) (v : Byte) =>
      Does i s cycles Loc.flags
        (fun t => t.flags = { (sub8 (s.reg .a) v false).2 with y := v.getLsbD 5, x := v.getLsbD 3 })
    compares (.cpR r) 4 (s.reg r) ∧ compares (.cpN n) 7 n ∧ compares .cpMemHl 7 (s.readByte s.hl)
    ∧ compares (.cpMemIx d) 19 (s.readByte (s.ix + d.signExtend 16))
    ∧ compares (.cpMemIy d) 19 (s.readByte (s.iy + d.signExtend 16))
    ∧ compares (.cpIxHalf g) 8 (s.half .ix g) ∧ compares (.cpIyHalf g) 8 (s.half .iy g)

/-- INC and DEC of a register, a memory byte and an index half (43_alu8.md R396 to R407): the operand counts up or down
modulo 256, the flags of Inc8 and Dec8 with C kept, a memory result under the rule of a byte write while the flags are
written all the same, the other index half and everything else unchanged. -/
def Obligations.IncrementsAndDecrements : Prop :=
  ∀ (s : State) (r : Reg8) (d : Byte) (g : Half),
    let flagsUp := fun v : Byte => ({
      s := (v + 1).getLsbD 7, z := decide (v = 0xFF), y := (v + 1).getLsbD 5, h := decide (v.toNat % 16 = 15),
      x := (v + 1).getLsbD 3, pv := decide (v = 0x7F), n := false, c := s.flag .c } : Flags)
    let flagsDown := fun v : Byte => ({
      s := (v - 1).getLsbD 7, z := decide (v = 0x01), y := (v - 1).getLsbD 5, h := decide (v.toNat % 16 = 0),
      x := (v - 1).getLsbD 3, pv := decide (v = 0x80), n := true, c := s.flag .c } : Flags)
    let register := fun (i : Instr) (res : Byte) (fl : Flags) =>
      Does i s 4 (.reg r :: Loc.flags) (fun t => t.reg r = res ∧ t.flags = fl)
    let memory := fun (i : Instr) (cycles : Nat) (a : Word) (res : Byte) (fl : Flags) =>
      Does i s cycles (.mem a :: Loc.flags) (fun t => t.readByte a = s.stored a res ∧ t.flags = fl)
    let half := fun (i : Instr) (k : Index) (res : Byte) (fl : Flags) =>
      Does i s 8 (Loc.index k :: Loc.flags) (fun t => t.half k g = res ∧ t.flags = fl
        ∧ ∀ other, other ≠ g → t.half k other = s.half k other)
    let ax := s.ix + d.signExtend 16
    let ay := s.iy + d.signExtend 16
    register (.incR r) (s.reg r + 1) (flagsUp (s.reg r))
    ∧ memory .incMemHl 11 s.hl (s.readByte s.hl + 1) (flagsUp (s.readByte s.hl))
    ∧ memory (.incMemIx d) 23 ax (s.readByte ax + 1) (flagsUp (s.readByte ax))
    ∧ memory (.incMemIy d) 23 ay (s.readByte ay + 1) (flagsUp (s.readByte ay))
    ∧ half (.incIxHalf g) .ix (s.half .ix g + 1) (flagsUp (s.half .ix g))
    ∧ half (.incIyHalf g) .iy (s.half .iy g + 1) (flagsUp (s.half .iy g))
    ∧ register (.decR r) (s.reg r - 1) (flagsDown (s.reg r))
    ∧ memory .decMemHl 11 s.hl (s.readByte s.hl - 1) (flagsDown (s.readByte s.hl))
    ∧ memory (.decMemIx d) 23 ax (s.readByte ax - 1) (flagsDown (s.readByte ax))
    ∧ memory (.decMemIy d) 23 ay (s.readByte ay - 1) (flagsDown (s.readByte ay))
    ∧ half (.decIxHalf g) .ix (s.half .ix g - 1) (flagsDown (s.half .ix g))
    ∧ half (.decIyHalf g) .iy (s.half .iy g - 1) (flagsDown (s.half .iy g))

/-! ### Control -/

/-- DAA, CPL, NEG, CCF and SCF (44_control.md R420 to R424): the accumulator, every flag, and that nothing else changes. -/
def Obligations.AccumulatorAndCarry : Prop :=
  ∀ (s : State) (m : BitVec 3),
    let a := s.reg .a
    let fl := s.flags
    let lo := a.toNat % 16
    let carry := decide (fl.c = true ∨ 0x99 < a.toNat)
    let diff : Byte := (if fl.h = true ∨ 9 < lo then 0x06 else 0x00) ||| (if carry then 0x60 else 0x00)
    let adjusted := if fl.n then a - diff else a + diff
    Does .daa s 4 (.reg .a :: Loc.flags) (fun t => t.reg .a = adjusted
      ∧ t.flags = { s := adjusted.getLsbD 7, z := decide (adjusted = 0), y := adjusted.getLsbD 5,
                    h := if fl.n then fl.h && decide (lo < 6) else decide (9 < lo), x := adjusted.getLsbD 3,
                    pv := parity adjusted, n := fl.n, c := carry })
    ∧ Does .cpl s 4 [.reg .a, .flag .y, .flag .h, .flag .x, .flag .n] (fun t => t.reg .a = ~~~a
      ∧ t.flags = { fl with h := true, n := true, y := !a.getLsbD 5, x := !a.getLsbD 3 })
    ∧ Does (.neg m) s 8 (.reg .a :: Loc.flags) (fun t => t.reg .a = -a
      ∧ t.flags = { s := (-a).getLsbD 7, z := decide (a = 0), y := (-a).getLsbD 5, h := decide (lo ≠ 0),
                    x := (-a).getLsbD 3, pv := decide (a = 0x80), n := true, c := decide (a ≠ 0) })
    ∧ Does .ccf s 4 [.flag .y, .flag .h, .flag .x, .flag .n, .flag .c] (fun t =>
        t.flags = { fl with h := fl.c, n := false, c := !fl.c, y := a.getLsbD 5, x := a.getLsbD 3 })
    ∧ Does .scf s 4 [.flag .y, .flag .h, .flag .x, .flag .n, .flag .c] (fun t =>
        t.flags = { fl with h := false, n := false, c := true, y := a.getLsbD 5, x := a.getLsbD 3 })

/-- NOP, HALT, DI, EI, IM, NONI and the step of an ignored DD or FD byte (44_control.md R425 to R433). -/
def Obligations.CpuControl : Prop :=
  ∀ (s : State) (m k fd : Bool) (op : Byte),
    Does .nop s 4 [] (fun t => t = s)
    ∧ Does .halt s 4 [.halted] (fun t => t.halted = true)
    ∧ Does .di s 4 [.iff1, .iff2] (fun t => t.iff1 = false ∧ t.iff2 = false)
    ∧ Does .ei s 4 [.iff1, .iff2] (fun t => t.iff1 = true ∧ t.iff2 = true)
    ∧ Does (.im0 m k) s 8 [.im] (fun t => t.im = .im0)
    ∧ Does (.im1 m) s 8 [.im] (fun t => t.im = .im1)
    ∧ Does (.im2 m) s 8 [.im] (fun t => t.im = .im2)
    ∧ Does (.noni op) s 8 [] (fun t => t = s)
    ∧ Does (.prefixIgnored fd) s 4 [] (fun t => t = s)

/-! ### 16-bit arithmetic -/

/-- ADD HL,ss, ADC HL,ss, SBC HL,ss, ADD IX,pp and ADD IY,rr (45_alu16.md R450 to R454): the destination and F are the
functions of 10_state.md R38, under the profile of the state, and nothing else changes. -/
def Obligations.SixteenBitAddSubtract : Prop :=
  ∀ (s : State) (ss : Pair) (pp : IdxPair),
    let toHl := fun (i : Instr) (cycles : Nat) (res : Word × Flags) =>
      Does i s cycles (.reg .h :: .reg .l :: Loc.flags) (fun t => t.hl = res.1 ∧ t.flags = res.2)
    let toXy := fun (i : Instr) (k : Index) (res : Word × Flags) =>
      Does i s 15 (Loc.index k :: Loc.flags) (fun t => t.index k = res.1 ∧ t.flags = res.2)
    let other := fun w : Word => match pp with | .bc => s.bc | .de => s.de | .xy => w | .sp => s.sp
    toHl (.addHlSs ss) 11 (add16 s.flagsProfile s.hl (s.pair ss) s.flags)
    ∧ toHl (.adcHlSs ss) 15 (adc16 s.hl (s.pair ss) (s.flag .c))
    ∧ toHl (.sbcHlSs ss) 15 (sbc16 s.hl (s.pair ss) (s.flag .c))
    ∧ toXy (.addIxPp pp) .ix (add16 s.flagsProfile s.ix (other s.ix) s.flags)
    ∧ toXy (.addIyRr pp) .iy (add16 s.flagsProfile s.iy (other s.iy) s.flags)

/-- INC ss, DEC ss and those of IX and IY (45_alu16.md R455 to R460): the word counts modulo 65536, no flag and nothing else
changes. -/
def Obligations.SixteenBitCounts : Prop :=
  ∀ (s : State) (ss : Pair),
    Does (.incSs ss) s 6 (Loc.pair ss) (fun t => t.pair ss = s.pair ss + 1)
    ∧ Does .incIx s 10 [.ix] (fun t => t.ix = s.ix + 1) ∧ Does .incIy s 10 [.iy] (fun t => t.iy = s.iy + 1)
    ∧ Does (.decSs ss) s 6 (Loc.pair ss) (fun t => t.pair ss = s.pair ss - 1)
    ∧ Does .decIx s 10 [.ix] (fun t => t.ix = s.ix - 1) ∧ Does .decIy s 10 [.iy] (fun t => t.iy = s.iy - 1)

/-! ### Rotates, shifts and bits -/

/-- RLCA, RLA, RRCA and RRA (46_rotate_shift.md R470 to R473): the rotated accumulator, H = N = 0, C the bit shifted out, S,
Z and PV kept, Y and X kept under the source profile and from the new A under nmos. -/
def Obligations.AccumulatorRotates : Prop :=
  ∀ s : State,
    let a := s.reg .a
    let cin := (BitVec.ofBool (s.flag .c)).setWidth 8
    let turns := fun (i : Instr) (res : Byte) (c : Bool) =>
      Does i s 4 [.reg .a, .flag .y, .flag .h, .flag .x, .flag .n, .flag .c] (fun t => t.reg .a = res
        ∧ t.flags = match s.flagsProfile with
          | .source => { s.flags with h := false, n := false, c := c }
          | .nmos => { s.flags with h := false, n := false, c := c, y := res.getLsbD 5, x := res.getLsbD 3 })
    turns .rlca (a.rotateLeft 1) a.msb ∧ turns .rla ((a <<< 1) ||| cin) a.msb
    ∧ turns .rrca (a.rotateRight 1) (a.getLsbD 0) ∧ turns .rra ((a >>> 1) ||| (cin <<< 7)) (a.getLsbD 0)

/-- The CB rotates and shifts of a register, of (HL), and of (IX+d) and (IY+d) with the register copy (46_rotate_shift.md
R474 to R506): the result of the table of R474 with its flags; a memory result under the rule of a byte write, the register
copy and the flags all the same. -/
def Obligations.RotatesAndShifts : Prop :=
  ∀ (s : State) (r : Reg8) (d : Byte) (z : Option Reg8),
    let ax := s.ix + d.signExtend 16
    let ay := s.iy + d.signExtend 16
    let register := fun (i : Instr) (op : RotOp) =>
      Does i s 8 (.reg r :: Loc.flags) (fun t => t.reg r = (rotate op (s.reg r) (s.flag .c)).1
        ∧ t.flags = (rotate op (s.reg r) (s.flag .c)).2)
    let memory := fun (i : Instr) (cycles : Nat) (op : RotOp) (a : Word) (z : Option Reg8) =>
      Does i s cycles (.mem a :: Loc.copy z ++ Loc.flags) (fun t =>
        t.readByte a = s.stored a (rotate op (s.readByte a) (s.flag .c)).1
        ∧ (∀ q, z = some q → t.reg q = (rotate op (s.readByte a) (s.flag .c)).1)
        ∧ t.flags = (rotate op (s.readByte a) (s.flag .c)).2)
    (register (.rlcR r) .rlc ∧ register (.rlR r) .rl ∧ register (.rrcR r) .rrc ∧ register (.rrR r) .rr
      ∧ register (.slaR r) .sla ∧ register (.sraR r) .sra ∧ register (.srlR r) .srl ∧ register (.sllR r) .sll)
    ∧ (memory .rlcMemHl 15 .rlc s.hl none ∧ memory .rlMemHl 15 .rl s.hl none ∧ memory .rrcMemHl 15 .rrc s.hl none
      ∧ memory .rrMemHl 15 .rr s.hl none ∧ memory .slaMemHl 15 .sla s.hl none ∧ memory .sraMemHl 15 .sra s.hl none
      ∧ memory .srlMemHl 15 .srl s.hl none ∧ memory .sllMemHl 15 .sll s.hl none)
    ∧ (memory (.rlcMemIx d z) 23 .rlc ax z ∧ memory (.rlMemIx d z) 23 .rl ax z ∧ memory (.rrcMemIx d z) 23 .rrc ax z
      ∧ memory (.rrMemIx d z) 23 .rr ax z ∧ memory (.slaMemIx d z) 23 .sla ax z ∧ memory (.sraMemIx d z) 23 .sra ax z
      ∧ memory (.srlMemIx d z) 23 .srl ax z ∧ memory (.sllMemIx d z) 23 .sll ax z)
    ∧ (memory (.rlcMemIy d z) 23 .rlc ay z ∧ memory (.rlMemIy d z) 23 .rl ay z ∧ memory (.rrcMemIy d z) 23 .rrc ay z
      ∧ memory (.rrMemIy d z) 23 .rr ay z ∧ memory (.slaMemIy d z) 23 .sla ay z ∧ memory (.sraMemIy d z) 23 .sra ay z
      ∧ memory (.srlMemIy d z) 23 .srl ay z ∧ memory (.sllMemIy d z) 23 .sll ay z)

/-- RLD and RRD (46_rotate_shift.md R507, R508): the three digits rotate through A and the byte at HL, A's high digit stays,
the flags come from the new A with C kept, and the byte is written under the rule of a byte write. -/
def Obligations.DigitRotates : Prop :=
  ∀ s : State,
    let a := s.reg .a
    let v := s.readByte s.hl
    let turns := fun (i : Instr) (acc mem : Byte) =>
      Does i s 18 (.mem s.hl :: .reg .a :: Loc.flags) (fun t => t.reg .a = acc ∧ t.readByte s.hl = s.stored s.hl mem
        ∧ t.flags = { s := acc.getLsbD 7, z := decide (acc = 0), y := acc.getLsbD 5, h := false, x := acc.getLsbD 3,
                      pv := parity acc, n := false, c := s.flag .c })
    turns .rld ((a &&& 0xF0) ||| (v >>> 4)) ((v <<< 4) ||| (a &&& 0x0F))
    ∧ turns .rrd ((a &&& 0xF0) ||| (v &&& 0x0F)) ((a <<< 4) ||| (v >>> 4))

/-- BIT (47_bit.md R520 to R523): every flag, Y and X from the tested value, from register H or from the high byte of the
effective address by form; no register and no memory changes. -/
def Obligations.BitTests : Prop :=
  ∀ (s : State) (b j : BitVec 3) (src : Reg8) (d : Byte),
    let ax := s.ix + d.signExtend 16
    let ay := s.iy + d.signExtend 16
    let tests := fun (i : Instr) (cycles : Nat) (v : Byte) (y x : Bool) =>
      let bit := (v >>> b.toNat) &&& 1
      Does i s cycles Loc.flags (fun t =>
        t.flags = { s := decide (b = 7 ∧ bit = 1), z := decide (bit = 0), y := y, h := true, x := x,
                    pv := decide (bit = 0), n := false, c := s.flag .c })
    tests (.bitR b src) 8 (s.reg src) ((s.reg src).getLsbD 5) ((s.reg src).getLsbD 3)
    ∧ tests (.bitMemHl b) 12 (s.readByte s.hl) ((s.reg .h).getLsbD 5) ((s.reg .h).getLsbD 3)
    ∧ tests (.bitMemIx b d j) 20 (s.readByte ax) (ax.getLsbD 13) (ax.getLsbD 11)
    ∧ tests (.bitMemIy b d j) 20 (s.readByte ay) (ay.getLsbD 13) (ay.getLsbD 11)

/-- SET and RES of a register, of (HL), and of (IX+d) and (IY+d) with the register copy (47_bit.md R524 to R531): no flag
changes; a memory result under the rule of a byte write, the register copy all the same. -/
def Obligations.BitSetsAndResets : Prop :=
  ∀ (s : State) (b : BitVec 3) (r : Reg8) (d : Byte) (z : Option Reg8),
    let ax := s.ix + d.signExtend 16
    let ay := s.iy + d.signExtend 16
    let set := fun v : Byte => v ||| (1#8 <<< b.toNat)
    let reset := fun v : Byte => v &&& ~~~(1#8 <<< b.toNat)
    let memory := fun (i : Instr) (cycles : Nat) (a : Word) (z : Option Reg8) (res : Byte) =>
      Does i s cycles (.mem a :: Loc.copy z)
        (fun t => t.readByte a = s.stored a res ∧ ∀ q, z = some q → t.reg q = res)
    Does (.setR b r) s 8 [.reg r] (fun t => t.reg r = set (s.reg r))
    ∧ memory (.setMemHl b) 15 s.hl none (set (s.readByte s.hl))
    ∧ memory (.setMemIx b d z) 23 ax z (set (s.readByte ax)) ∧ memory (.setMemIy b d z) 23 ay z (set (s.readByte ay))
    ∧ Does (.resR b r) s 8 [.reg r] (fun t => t.reg r = reset (s.reg r))
    ∧ memory (.resMemHl b) 15 s.hl none (reset (s.readByte s.hl))
    ∧ memory (.resMemIx b d z) 23 ax z (reset (s.readByte ax))
    ∧ memory (.resMemIy b d z) 23 ay z (reset (s.readByte ay))

/-! ### Jumps, calls, returns -/

/-- The jumps and DJNZ (48_jump_call_return.md R540 to R547): where PC goes, taken and not taken; no flag changes. In `s`, PC
is the address after the instruction. -/
def Obligations.Jumps : Prop :=
  ∀ (s : State) (nn : Word) (cc : Cond) (e : Byte),
    let goes := fun (i : Instr) (cycles : Nat) (target : Word) => Does i s cycles [.pc] (fun t => t.pc = target)
    let near := s.pc + e.signExtend 16
    let left := s.reg .b - 1
    goes (.jpNn nn) 10 nn ∧ goes (.jpCc cc nn) 10 (if s.cond cc then nn else s.pc)
    ∧ goes (.jr e) 12 near ∧ goes (.jrCc cc e) (if s.cond cc then 12 else 7) (if s.cond cc then near else s.pc)
    ∧ goes .jpHl 4 s.hl ∧ goes .jpIx 8 s.ix ∧ goes .jpIy 8 s.iy
    ∧ Does (.djnz e) s (if left ≠ 0 then 13 else 8) [.reg .b, .pc]
        (fun t => t.reg .b = left ∧ t.pc = if left ≠ 0 then near else s.pc)

/-- CALL, CALL cc and RST (48_jump_call_return.md R548, R549, R554): the address after the instruction is pushed and PC is the
target; a call not taken changes nothing. -/
def Obligations.Calls : Prop :=
  ∀ (s : State) (nn : Word) (cc : Cond) (k : BitVec 3),
    let calls := fun (i : Instr) (cycles : Nat) (target : Word) =>
      Does i s cycles (.pc :: s.pushLocs) (fun t => t.pc = target ∧ s.Pushed s.pc t)
    calls (.callNn nn) 17 nn
    ∧ (if s.cond cc then calls (.callCc cc nn) 17 nn else Does (.callCc cc nn) s 10 [] (fun t => t = s))
    ∧ calls (.rst k) 11 (BitVec.ofNat 16 (8 * k.toNat))

/-- RET, RET cc, RETI and RETN (48_jump_call_return.md R550 to R553): PC is the word on the stack and SP is two higher; RETI
and RETN also restore IFF1 from IFF2; a return not taken changes nothing. -/
def Obligations.Returns : Prop :=
  ∀ (s : State) (cc : Cond) (m : BitVec 3),
    let target := s.readByte (s.sp + 1) ++ s.readByte s.sp
    let returns := fun (i : Instr) (cycles : Nat) => Does i s cycles [.pc, .sp] (fun t => t.pc = target ∧ t.sp = s.sp + 2)
    let restores := fun (i : Instr) =>
      Does i s 14 [.pc, .sp, .iff1] (fun t => t.pc = target ∧ t.sp = s.sp + 2 ∧ t.iff1 = s.iff2)
    returns .ret 10
    ∧ (if s.cond cc then returns (.retCc cc) 11 else Does (.retCc cc) s 5 [] (fun t => t = s))
    ∧ restores .reti ∧ restores (.retn m)

/-! ### Input and output -/

/-- IN and OUT of a byte (49_io.md R581 to R583, R588 to R590): an input gives the byte staged for the low byte of the port
address, and some byte, of which nothing is said, where none is staged; an output leaves its byte in the slot. -/
def Obligations.PortInputAndOutput : Prop :=
  ∀ (s : State) (n : Byte) (r : Reg8),
    let flagsOf := fun v : Byte => ({
      s := v.getLsbD 7, z := decide (v = 0), y := v.getLsbD 5, h := false, x := v.getLsbD 3, pv := parity v,
      n := false, c := s.flag .c } : Flags)
    let inputs := fun (i : Instr) (cycles : Nat) (ls : List Loc) (q : Byte) (holds : Byte → State → Prop) =>
      ∃ v, (∀ staged, s.inSlot q = some staged → v = staged) ∧ Does i s cycles (.draws :: ls) (holds v)
    let outputs := fun (i : Instr) (cycles : Nat) (q v : Byte) =>
      Does i s cycles [.outSlot q] (fun t => t.outSlot q = some v)
    inputs (.inAN n) 11 [.reg .a] n (fun v t => t.reg .a = v)
    ∧ inputs (.inRC r) 12 (.reg r :: Loc.flags) (s.reg .c) (fun v t => t.reg r = v ∧ t.flags = flagsOf v)
    ∧ inputs .inC 12 Loc.flags (s.reg .c) (fun v t => t.flags = flagsOf v)
    ∧ outputs (.outNA n) 11 n (s.reg .a) ∧ outputs (.outCR r) 12 (s.reg .c) (s.reg r)
    ∧ outputs .outC0 12 (s.reg .c) 0

/-- The block inputs and outputs (49_io.md R580, R584 to R587, R591 to R594; 42_exchange_block.md R306): one byte between
memory at HL and the port, HL stepped, B counted down, the flags of R580, and for the repeating forms PC held on the
instruction while B is not 0. -/
def Obligations.BlockInputAndOutput : Prop :=
  ∀ s : State,
    let left := s.reg .b - 1
    let q := s.reg .c
    let flagsOf := fun (v : Byte) (k : Nat) => ({
      s := left.getLsbD 7, z := decide (left = 0), y := left.getLsbD 5, h := decide (255 < k),
      x := left.getLsbD 3, pv := parity (BitVec.ofNat 8 (k % 8) ^^^ left), n := v.getLsbD 7, c := decide (255 < k) } : Flags)
    let held := fun (again : Bool) (t : State) => t.pc = if again then s.pc - 2 else s.pc
    let inputs := fun (i : Instr) (delta : Word) (step : Byte) (again : Bool) =>
      ∃ v, (∀ staged, s.inSlot q = some staged → v = staged) ∧
        Does i s (if again then 21 else 16)
          (.draws :: .mem s.hl :: .reg .h :: .reg .l :: .reg .b :: .pc :: Loc.flags)
          (fun t => t.readByte s.hl = s.stored s.hl v ∧ t.hl = s.hl + delta ∧ t.reg .b = left
            ∧ t.flags = flagsOf v (v.toNat + (q + step).toNat) ∧ held again t)
    let outputs := fun (i : Instr) (delta : Word) (again : Bool) =>
      let v := s.readByte s.hl
      Does i s (if again then 21 else 16) (.outSlot q :: .reg .h :: .reg .l :: .reg .b :: .pc :: Loc.flags)
        (fun t => t.outSlot q = some v ∧ t.hl = s.hl + delta ∧ t.reg .b = left
          ∧ t.flags = flagsOf v (v.toNat + ((s.hl + delta).setWidth 8).toNat) ∧ held again t)
    let more := decide (left ≠ 0)
    inputs .ini 1 1 false ∧ inputs .inir 1 1 more ∧ inputs .ind (-1) (-1) false ∧ inputs .indr (-1) (-1) more
    ∧ outputs .outi 1 false ∧ outputs .otir 1 more ∧ outputs .outd (-1) false ∧ outputs .otdr (-1) more

/-! ### Interrupts -/

/-- `interrupt(data)` (60_exceptions.md R623 to R629): ignored while IFF1 is 0; otherwise IFF1 and IFF2 are cleared, the halt
latch too, R counts one, and the mode acts: mode 1 pushes PC and jumps to 0x0038, mode 2 pushes PC and jumps to the word at
`I : data`, read after the push, mode 0 runs a one-byte instruction, RST pushing the interrupted PC, and refuses any other
byte. -/
def Obligations.MaskableInterrupts : Prop :=
  ∀ (s : State) (data : Byte),
    let common := fun t : State => t.iff1 = false ∧ t.iff2 = false ∧ t.halted = false ∧ t.regR = refreshAfter s.regR 1
    let entry : List Loc := [.iff1, .iff2, .halted, .regR]
    let vector := s.regI ++ data
    (s.iff1 = false → interrupt data s = .next s ∧ interruptT data s = some 0)
    ∧ (s.iff1 = true → s.im = .im1 → interruptT data s = some 13 ∧ ∃ t, interrupt data s = .next t ∧ common t
        ∧ s.Pushed s.pc t ∧ t.pc = 0x0038 ∧ s.SameBut (.pc :: entry ++ s.pushLocs) t)
    ∧ (s.iff1 = true → s.im = .im2 → interruptT data s = some 19 ∧ ∃ t, interrupt data s = .next t ∧ common t
        ∧ s.Pushed s.pc t ∧ t.pc = t.readByte (vector + 1) ++ t.readByte vector
        ∧ s.SameBut (.pc :: entry ++ s.pushLocs) t)
    ∧ (s.iff1 = true → s.im = .im0 →
        (∀ k : BitVec 3, data = 0b11#2 ++ k ++ 0b111#3 → interruptT data s = some 13 ∧
          ∃ t, interrupt data s = .next t ∧ common t ∧ s.Pushed s.pc t ∧ t.pc = BitVec.ofNat 16 (8 * k.toNat)
            ∧ s.SameBut (.pc :: entry ++ s.pushLocs) t)
        ∧ ((lengthOf data 0 ≠ 1 ∨ data = 0xDD ∨ data = 0xFD) → interrupt data s = .refused (.im0Data data))
        ∧ (lengthOf data 0 = 1 → data ≠ 0xDD → data ≠ 0xFD → ∃ i u, decode [data] = .ok (i, [])
          ∧ interrupt data s = exec i u ∧ interruptT data s = some (2 + instrT i u) ∧ common u
          ∧ s.SameBut entry u))

/-- `nmi()` (60_exceptions.md R630): always accepted; IFF1 is saved in IFF2 and cleared, the halt latch cleared, R counts one,
PC is pushed and becomes 0x0066. RETN run on the state the NMI left (60_exceptions.md R634, 48_jump_call_return.md R553,
with 20_memory.md R88 and R89) restores IFF1 and SP and, where the two stack bytes are writable, PC. -/
def Obligations.NonMaskableInterruptAndReturn : Prop :=
  ∀ (s : State) (m : BitVec 3), nmiT = 11 ∧ ∃ t, nmi s = .next t
    ∧ t.iff2 = s.iff1 ∧ t.iff1 = false ∧ t.halted = false ∧ t.regR = refreshAfter s.regR 1
    ∧ s.Pushed s.pc t ∧ t.pc = 0x0066 ∧ s.SameBut (.pc :: .iff1 :: .iff2 :: .halted :: .regR :: s.pushLocs) t
    ∧ ∃ u, exec (.retn m) t = .next u ∧ u.iff1 = s.iff1 ∧ u.sp = s.sp
      ∧ (s.writable (s.sp - 1) = true → s.writable (s.sp - 2) = true → u.pc = s.pc)
end

