-- ==== Sys2Proof/Laws/State.lean ====
section
/-! SUPPORT. Each field and each view of the state after each update, one lemma each, for simp. -/

namespace Sys2Proof.Machine

variable (s : State)

/-! ### `setReg` -/

@[simp] theorem State.setReg_selAf (r : Reg8) (v : Byte) : (s.setReg r v).selAf = s.selAf := by unfold State.setReg; split <;> rfl
@[simp] theorem State.setReg_selGp (r : Reg8) (v : Byte) : (s.setReg r v).selGp = s.selGp := by unfold State.setReg; split <;> rfl
@[simp] theorem State.setReg_ix (r : Reg8) (v : Byte) : (s.setReg r v).ix = s.ix := by unfold State.setReg; split <;> rfl
@[simp] theorem State.setReg_iy (r : Reg8) (v : Byte) : (s.setReg r v).iy = s.iy := by unfold State.setReg; split <;> rfl
@[simp] theorem State.setReg_sp (r : Reg8) (v : Byte) : (s.setReg r v).sp = s.sp := by unfold State.setReg; split <;> rfl
@[simp] theorem State.setReg_pc (r : Reg8) (v : Byte) : (s.setReg r v).pc = s.pc := by unfold State.setReg; split <;> rfl
@[simp] theorem State.setReg_regI (r : Reg8) (v : Byte) : (s.setReg r v).regI = s.regI := by unfold State.setReg; split <;> rfl
@[simp] theorem State.setReg_regR (r : Reg8) (v : Byte) : (s.setReg r v).regR = s.regR := by unfold State.setReg; split <;> rfl
@[simp] theorem State.setReg_iff1 (r : Reg8) (v : Byte) : (s.setReg r v).iff1 = s.iff1 := by unfold State.setReg; split <;> rfl
@[simp] theorem State.setReg_iff2 (r : Reg8) (v : Byte) : (s.setReg r v).iff2 = s.iff2 := by unfold State.setReg; split <;> rfl
@[simp] theorem State.setReg_im (r : Reg8) (v : Byte) : (s.setReg r v).im = s.im := by unfold State.setReg; split <;> rfl
@[simp] theorem State.setReg_halted (r : Reg8) (v : Byte) : (s.setReg r v).halted = s.halted := by unfold State.setReg; split <;> rfl
@[simp] theorem State.setReg_mem (r : Reg8) (v : Byte) : (s.setReg r v).mem = s.mem := by unfold State.setReg; split <;> rfl
@[simp] theorem State.setReg_rom (r : Reg8) (v : Byte) : (s.setReg r v).rom = s.rom := by unfold State.setReg; split <;> rfl
@[simp] theorem State.setReg_outSlots (r : Reg8) (v : Byte) : (s.setReg r v).outSlots = s.outSlots := by unfold State.setReg; split <;> rfl
@[simp] theorem State.setReg_inSlots (r : Reg8) (v : Byte) : (s.setReg r v).inSlots = s.inSlots := by unfold State.setReg; split <;> rfl
@[simp] theorem State.setReg_memSize (r : Reg8) (v : Byte) : (s.setReg r v).memSize = s.memSize := by unfold State.setReg; split <;> rfl
@[simp] theorem State.setReg_flagsProfile (r : Reg8) (v : Byte) : (s.setReg r v).flagsProfile = s.flagsProfile := by unfold State.setReg; split <;> rfl
@[simp] theorem State.setReg_draws (r : Reg8) (v : Byte) : (s.setReg r v).draws = s.draws := by unfold State.setReg; split <;> rfl

/-! ### `setF` -/

@[simp] theorem State.setF_selAf (v : Byte) : (s.setF v).selAf = s.selAf := by unfold State.setF; split <;> rfl
@[simp] theorem State.setF_selGp (v : Byte) : (s.setF v).selGp = s.selGp := by unfold State.setF; split <;> rfl
@[simp] theorem State.setF_ix (v : Byte) : (s.setF v).ix = s.ix := by unfold State.setF; split <;> rfl
@[simp] theorem State.setF_iy (v : Byte) : (s.setF v).iy = s.iy := by unfold State.setF; split <;> rfl
@[simp] theorem State.setF_sp (v : Byte) : (s.setF v).sp = s.sp := by unfold State.setF; split <;> rfl
@[simp] theorem State.setF_pc (v : Byte) : (s.setF v).pc = s.pc := by unfold State.setF; split <;> rfl
@[simp] theorem State.setF_regI (v : Byte) : (s.setF v).regI = s.regI := by unfold State.setF; split <;> rfl
@[simp] theorem State.setF_regR (v : Byte) : (s.setF v).regR = s.regR := by unfold State.setF; split <;> rfl
@[simp] theorem State.setF_iff1 (v : Byte) : (s.setF v).iff1 = s.iff1 := by unfold State.setF; split <;> rfl
@[simp] theorem State.setF_iff2 (v : Byte) : (s.setF v).iff2 = s.iff2 := by unfold State.setF; split <;> rfl
@[simp] theorem State.setF_im (v : Byte) : (s.setF v).im = s.im := by unfold State.setF; split <;> rfl
@[simp] theorem State.setF_halted (v : Byte) : (s.setF v).halted = s.halted := by unfold State.setF; split <;> rfl
@[simp] theorem State.setF_mem (v : Byte) : (s.setF v).mem = s.mem := by unfold State.setF; split <;> rfl
@[simp] theorem State.setF_rom (v : Byte) : (s.setF v).rom = s.rom := by unfold State.setF; split <;> rfl
@[simp] theorem State.setF_outSlots (v : Byte) : (s.setF v).outSlots = s.outSlots := by unfold State.setF; split <;> rfl
@[simp] theorem State.setF_inSlots (v : Byte) : (s.setF v).inSlots = s.inSlots := by unfold State.setF; split <;> rfl
@[simp] theorem State.setF_memSize (v : Byte) : (s.setF v).memSize = s.memSize := by unfold State.setF; split <;> rfl
@[simp] theorem State.setF_flagsProfile (v : Byte) : (s.setF v).flagsProfile = s.flagsProfile := by unfold State.setF; split <;> rfl
@[simp] theorem State.setF_draws (v : Byte) : (s.setF v).draws = s.draws := by unfold State.setF; split <;> rfl

/-! ### `setFlags` -/

@[simp] theorem State.setFlags_selAf (fl : Flags) : (s.setFlags fl).selAf = s.selAf := by simp [State.setFlags]
@[simp] theorem State.setFlags_selGp (fl : Flags) : (s.setFlags fl).selGp = s.selGp := by simp [State.setFlags]
@[simp] theorem State.setFlags_ix (fl : Flags) : (s.setFlags fl).ix = s.ix := by simp [State.setFlags]
@[simp] theorem State.setFlags_iy (fl : Flags) : (s.setFlags fl).iy = s.iy := by simp [State.setFlags]
@[simp] theorem State.setFlags_sp (fl : Flags) : (s.setFlags fl).sp = s.sp := by simp [State.setFlags]
@[simp] theorem State.setFlags_pc (fl : Flags) : (s.setFlags fl).pc = s.pc := by simp [State.setFlags]
@[simp] theorem State.setFlags_regI (fl : Flags) : (s.setFlags fl).regI = s.regI := by simp [State.setFlags]
@[simp] theorem State.setFlags_regR (fl : Flags) : (s.setFlags fl).regR = s.regR := by simp [State.setFlags]
@[simp] theorem State.setFlags_iff1 (fl : Flags) : (s.setFlags fl).iff1 = s.iff1 := by simp [State.setFlags]
@[simp] theorem State.setFlags_iff2 (fl : Flags) : (s.setFlags fl).iff2 = s.iff2 := by simp [State.setFlags]
@[simp] theorem State.setFlags_im (fl : Flags) : (s.setFlags fl).im = s.im := by simp [State.setFlags]
@[simp] theorem State.setFlags_halted (fl : Flags) : (s.setFlags fl).halted = s.halted := by simp [State.setFlags]
@[simp] theorem State.setFlags_mem (fl : Flags) : (s.setFlags fl).mem = s.mem := by simp [State.setFlags]
@[simp] theorem State.setFlags_rom (fl : Flags) : (s.setFlags fl).rom = s.rom := by simp [State.setFlags]
@[simp] theorem State.setFlags_outSlots (fl : Flags) : (s.setFlags fl).outSlots = s.outSlots := by simp [State.setFlags]
@[simp] theorem State.setFlags_inSlots (fl : Flags) : (s.setFlags fl).inSlots = s.inSlots := by simp [State.setFlags]
@[simp] theorem State.setFlags_memSize (fl : Flags) : (s.setFlags fl).memSize = s.memSize := by simp [State.setFlags]
@[simp] theorem State.setFlags_flagsProfile (fl : Flags) : (s.setFlags fl).flagsProfile = s.flagsProfile := by simp [State.setFlags]
@[simp] theorem State.setFlags_draws (fl : Flags) : (s.setFlags fl).draws = s.draws := by simp [State.setFlags]

/-! ### `setIx` -/

@[simp] theorem State.setIx_bank0 (v : Word) : (s.setIx v).bank0 = s.bank0 := rfl
@[simp] theorem State.setIx_bank1 (v : Word) : (s.setIx v).bank1 = s.bank1 := rfl
@[simp] theorem State.setIx_selAf (v : Word) : (s.setIx v).selAf = s.selAf := rfl
@[simp] theorem State.setIx_selGp (v : Word) : (s.setIx v).selGp = s.selGp := rfl
@[simp] theorem State.setIx_ix (v : Word) : (s.setIx v).ix = v := rfl
@[simp] theorem State.setIx_iy (v : Word) : (s.setIx v).iy = s.iy := rfl
@[simp] theorem State.setIx_sp (v : Word) : (s.setIx v).sp = s.sp := rfl
@[simp] theorem State.setIx_pc (v : Word) : (s.setIx v).pc = s.pc := rfl
@[simp] theorem State.setIx_regI (v : Word) : (s.setIx v).regI = s.regI := rfl
@[simp] theorem State.setIx_regR (v : Word) : (s.setIx v).regR = s.regR := rfl
@[simp] theorem State.setIx_iff1 (v : Word) : (s.setIx v).iff1 = s.iff1 := rfl
@[simp] theorem State.setIx_iff2 (v : Word) : (s.setIx v).iff2 = s.iff2 := rfl
@[simp] theorem State.setIx_im (v : Word) : (s.setIx v).im = s.im := rfl
@[simp] theorem State.setIx_halted (v : Word) : (s.setIx v).halted = s.halted := rfl
@[simp] theorem State.setIx_mem (v : Word) : (s.setIx v).mem = s.mem := rfl
@[simp] theorem State.setIx_rom (v : Word) : (s.setIx v).rom = s.rom := rfl
@[simp] theorem State.setIx_outSlots (v : Word) : (s.setIx v).outSlots = s.outSlots := rfl
@[simp] theorem State.setIx_inSlots (v : Word) : (s.setIx v).inSlots = s.inSlots := rfl
@[simp] theorem State.setIx_memSize (v : Word) : (s.setIx v).memSize = s.memSize := rfl
@[simp] theorem State.setIx_flagsProfile (v : Word) : (s.setIx v).flagsProfile = s.flagsProfile := rfl
@[simp] theorem State.setIx_draws (v : Word) : (s.setIx v).draws = s.draws := rfl

/-! ### `setIy` -/

@[simp] theorem State.setIy_bank0 (v : Word) : (s.setIy v).bank0 = s.bank0 := rfl
@[simp] theorem State.setIy_bank1 (v : Word) : (s.setIy v).bank1 = s.bank1 := rfl
@[simp] theorem State.setIy_selAf (v : Word) : (s.setIy v).selAf = s.selAf := rfl
@[simp] theorem State.setIy_selGp (v : Word) : (s.setIy v).selGp = s.selGp := rfl
@[simp] theorem State.setIy_ix (v : Word) : (s.setIy v).ix = s.ix := rfl
@[simp] theorem State.setIy_iy (v : Word) : (s.setIy v).iy = v := rfl
@[simp] theorem State.setIy_sp (v : Word) : (s.setIy v).sp = s.sp := rfl
@[simp] theorem State.setIy_pc (v : Word) : (s.setIy v).pc = s.pc := rfl
@[simp] theorem State.setIy_regI (v : Word) : (s.setIy v).regI = s.regI := rfl
@[simp] theorem State.setIy_regR (v : Word) : (s.setIy v).regR = s.regR := rfl
@[simp] theorem State.setIy_iff1 (v : Word) : (s.setIy v).iff1 = s.iff1 := rfl
@[simp] theorem State.setIy_iff2 (v : Word) : (s.setIy v).iff2 = s.iff2 := rfl
@[simp] theorem State.setIy_im (v : Word) : (s.setIy v).im = s.im := rfl
@[simp] theorem State.setIy_halted (v : Word) : (s.setIy v).halted = s.halted := rfl
@[simp] theorem State.setIy_mem (v : Word) : (s.setIy v).mem = s.mem := rfl
@[simp] theorem State.setIy_rom (v : Word) : (s.setIy v).rom = s.rom := rfl
@[simp] theorem State.setIy_outSlots (v : Word) : (s.setIy v).outSlots = s.outSlots := rfl
@[simp] theorem State.setIy_inSlots (v : Word) : (s.setIy v).inSlots = s.inSlots := rfl
@[simp] theorem State.setIy_memSize (v : Word) : (s.setIy v).memSize = s.memSize := rfl
@[simp] theorem State.setIy_flagsProfile (v : Word) : (s.setIy v).flagsProfile = s.flagsProfile := rfl
@[simp] theorem State.setIy_draws (v : Word) : (s.setIy v).draws = s.draws := rfl

/-! ### `setSp` -/

@[simp] theorem State.setSp_bank0 (v : Word) : (s.setSp v).bank0 = s.bank0 := rfl
@[simp] theorem State.setSp_bank1 (v : Word) : (s.setSp v).bank1 = s.bank1 := rfl
@[simp] theorem State.setSp_selAf (v : Word) : (s.setSp v).selAf = s.selAf := rfl
@[simp] theorem State.setSp_selGp (v : Word) : (s.setSp v).selGp = s.selGp := rfl
@[simp] theorem State.setSp_ix (v : Word) : (s.setSp v).ix = s.ix := rfl
@[simp] theorem State.setSp_iy (v : Word) : (s.setSp v).iy = s.iy := rfl
@[simp] theorem State.setSp_sp (v : Word) : (s.setSp v).sp = v := rfl
@[simp] theorem State.setSp_pc (v : Word) : (s.setSp v).pc = s.pc := rfl
@[simp] theorem State.setSp_regI (v : Word) : (s.setSp v).regI = s.regI := rfl
@[simp] theorem State.setSp_regR (v : Word) : (s.setSp v).regR = s.regR := rfl
@[simp] theorem State.setSp_iff1 (v : Word) : (s.setSp v).iff1 = s.iff1 := rfl
@[simp] theorem State.setSp_iff2 (v : Word) : (s.setSp v).iff2 = s.iff2 := rfl
@[simp] theorem State.setSp_im (v : Word) : (s.setSp v).im = s.im := rfl
@[simp] theorem State.setSp_halted (v : Word) : (s.setSp v).halted = s.halted := rfl
@[simp] theorem State.setSp_mem (v : Word) : (s.setSp v).mem = s.mem := rfl
@[simp] theorem State.setSp_rom (v : Word) : (s.setSp v).rom = s.rom := rfl
@[simp] theorem State.setSp_outSlots (v : Word) : (s.setSp v).outSlots = s.outSlots := rfl
@[simp] theorem State.setSp_inSlots (v : Word) : (s.setSp v).inSlots = s.inSlots := rfl
@[simp] theorem State.setSp_memSize (v : Word) : (s.setSp v).memSize = s.memSize := rfl
@[simp] theorem State.setSp_flagsProfile (v : Word) : (s.setSp v).flagsProfile = s.flagsProfile := rfl
@[simp] theorem State.setSp_draws (v : Word) : (s.setSp v).draws = s.draws := rfl

/-! ### `setPc` -/

@[simp] theorem State.setPc_bank0 (v : Word) : (s.setPc v).bank0 = s.bank0 := rfl
@[simp] theorem State.setPc_bank1 (v : Word) : (s.setPc v).bank1 = s.bank1 := rfl
@[simp] theorem State.setPc_selAf (v : Word) : (s.setPc v).selAf = s.selAf := rfl
@[simp] theorem State.setPc_selGp (v : Word) : (s.setPc v).selGp = s.selGp := rfl
@[simp] theorem State.setPc_ix (v : Word) : (s.setPc v).ix = s.ix := rfl
@[simp] theorem State.setPc_iy (v : Word) : (s.setPc v).iy = s.iy := rfl
@[simp] theorem State.setPc_sp (v : Word) : (s.setPc v).sp = s.sp := rfl
@[simp] theorem State.setPc_pc (v : Word) : (s.setPc v).pc = v := rfl
@[simp] theorem State.setPc_regI (v : Word) : (s.setPc v).regI = s.regI := rfl
@[simp] theorem State.setPc_regR (v : Word) : (s.setPc v).regR = s.regR := rfl
@[simp] theorem State.setPc_iff1 (v : Word) : (s.setPc v).iff1 = s.iff1 := rfl
@[simp] theorem State.setPc_iff2 (v : Word) : (s.setPc v).iff2 = s.iff2 := rfl
@[simp] theorem State.setPc_im (v : Word) : (s.setPc v).im = s.im := rfl
@[simp] theorem State.setPc_halted (v : Word) : (s.setPc v).halted = s.halted := rfl
@[simp] theorem State.setPc_mem (v : Word) : (s.setPc v).mem = s.mem := rfl
@[simp] theorem State.setPc_rom (v : Word) : (s.setPc v).rom = s.rom := rfl
@[simp] theorem State.setPc_outSlots (v : Word) : (s.setPc v).outSlots = s.outSlots := rfl
@[simp] theorem State.setPc_inSlots (v : Word) : (s.setPc v).inSlots = s.inSlots := rfl
@[simp] theorem State.setPc_memSize (v : Word) : (s.setPc v).memSize = s.memSize := rfl
@[simp] theorem State.setPc_flagsProfile (v : Word) : (s.setPc v).flagsProfile = s.flagsProfile := rfl
@[simp] theorem State.setPc_draws (v : Word) : (s.setPc v).draws = s.draws := rfl

/-! ### `setI` -/

@[simp] theorem State.setI_bank0 (v : Byte) : (s.setI v).bank0 = s.bank0 := rfl
@[simp] theorem State.setI_bank1 (v : Byte) : (s.setI v).bank1 = s.bank1 := rfl
@[simp] theorem State.setI_selAf (v : Byte) : (s.setI v).selAf = s.selAf := rfl
@[simp] theorem State.setI_selGp (v : Byte) : (s.setI v).selGp = s.selGp := rfl
@[simp] theorem State.setI_ix (v : Byte) : (s.setI v).ix = s.ix := rfl
@[simp] theorem State.setI_iy (v : Byte) : (s.setI v).iy = s.iy := rfl
@[simp] theorem State.setI_sp (v : Byte) : (s.setI v).sp = s.sp := rfl
@[simp] theorem State.setI_pc (v : Byte) : (s.setI v).pc = s.pc := rfl
@[simp] theorem State.setI_regI (v : Byte) : (s.setI v).regI = v := rfl
@[simp] theorem State.setI_regR (v : Byte) : (s.setI v).regR = s.regR := rfl
@[simp] theorem State.setI_iff1 (v : Byte) : (s.setI v).iff1 = s.iff1 := rfl
@[simp] theorem State.setI_iff2 (v : Byte) : (s.setI v).iff2 = s.iff2 := rfl
@[simp] theorem State.setI_im (v : Byte) : (s.setI v).im = s.im := rfl
@[simp] theorem State.setI_halted (v : Byte) : (s.setI v).halted = s.halted := rfl
@[simp] theorem State.setI_mem (v : Byte) : (s.setI v).mem = s.mem := rfl
@[simp] theorem State.setI_rom (v : Byte) : (s.setI v).rom = s.rom := rfl
@[simp] theorem State.setI_outSlots (v : Byte) : (s.setI v).outSlots = s.outSlots := rfl
@[simp] theorem State.setI_inSlots (v : Byte) : (s.setI v).inSlots = s.inSlots := rfl
@[simp] theorem State.setI_memSize (v : Byte) : (s.setI v).memSize = s.memSize := rfl
@[simp] theorem State.setI_flagsProfile (v : Byte) : (s.setI v).flagsProfile = s.flagsProfile := rfl
@[simp] theorem State.setI_draws (v : Byte) : (s.setI v).draws = s.draws := rfl

/-! ### `setR` -/

@[simp] theorem State.setR_bank0 (v : Byte) : (s.setR v).bank0 = s.bank0 := rfl
@[simp] theorem State.setR_bank1 (v : Byte) : (s.setR v).bank1 = s.bank1 := rfl
@[simp] theorem State.setR_selAf (v : Byte) : (s.setR v).selAf = s.selAf := rfl
@[simp] theorem State.setR_selGp (v : Byte) : (s.setR v).selGp = s.selGp := rfl
@[simp] theorem State.setR_ix (v : Byte) : (s.setR v).ix = s.ix := rfl
@[simp] theorem State.setR_iy (v : Byte) : (s.setR v).iy = s.iy := rfl
@[simp] theorem State.setR_sp (v : Byte) : (s.setR v).sp = s.sp := rfl
@[simp] theorem State.setR_pc (v : Byte) : (s.setR v).pc = s.pc := rfl
@[simp] theorem State.setR_regI (v : Byte) : (s.setR v).regI = s.regI := rfl
@[simp] theorem State.setR_regR (v : Byte) : (s.setR v).regR = v := rfl
@[simp] theorem State.setR_iff1 (v : Byte) : (s.setR v).iff1 = s.iff1 := rfl
@[simp] theorem State.setR_iff2 (v : Byte) : (s.setR v).iff2 = s.iff2 := rfl
@[simp] theorem State.setR_im (v : Byte) : (s.setR v).im = s.im := rfl
@[simp] theorem State.setR_halted (v : Byte) : (s.setR v).halted = s.halted := rfl
@[simp] theorem State.setR_mem (v : Byte) : (s.setR v).mem = s.mem := rfl
@[simp] theorem State.setR_rom (v : Byte) : (s.setR v).rom = s.rom := rfl
@[simp] theorem State.setR_outSlots (v : Byte) : (s.setR v).outSlots = s.outSlots := rfl
@[simp] theorem State.setR_inSlots (v : Byte) : (s.setR v).inSlots = s.inSlots := rfl
@[simp] theorem State.setR_memSize (v : Byte) : (s.setR v).memSize = s.memSize := rfl
@[simp] theorem State.setR_flagsProfile (v : Byte) : (s.setR v).flagsProfile = s.flagsProfile := rfl
@[simp] theorem State.setR_draws (v : Byte) : (s.setR v).draws = s.draws := rfl

/-! ### `setIff` -/

@[simp] theorem State.setIff_bank0 (a b : Bool) : (s.setIff a b).bank0 = s.bank0 := rfl
@[simp] theorem State.setIff_bank1 (a b : Bool) : (s.setIff a b).bank1 = s.bank1 := rfl
@[simp] theorem State.setIff_selAf (a b : Bool) : (s.setIff a b).selAf = s.selAf := rfl
@[simp] theorem State.setIff_selGp (a b : Bool) : (s.setIff a b).selGp = s.selGp := rfl
@[simp] theorem State.setIff_ix (a b : Bool) : (s.setIff a b).ix = s.ix := rfl
@[simp] theorem State.setIff_iy (a b : Bool) : (s.setIff a b).iy = s.iy := rfl
@[simp] theorem State.setIff_sp (a b : Bool) : (s.setIff a b).sp = s.sp := rfl
@[simp] theorem State.setIff_pc (a b : Bool) : (s.setIff a b).pc = s.pc := rfl
@[simp] theorem State.setIff_regI (a b : Bool) : (s.setIff a b).regI = s.regI := rfl
@[simp] theorem State.setIff_regR (a b : Bool) : (s.setIff a b).regR = s.regR := rfl
@[simp] theorem State.setIff_iff1 (a b : Bool) : (s.setIff a b).iff1 = a := rfl
@[simp] theorem State.setIff_iff2 (a b : Bool) : (s.setIff a b).iff2 = b := rfl
@[simp] theorem State.setIff_im (a b : Bool) : (s.setIff a b).im = s.im := rfl
@[simp] theorem State.setIff_halted (a b : Bool) : (s.setIff a b).halted = s.halted := rfl
@[simp] theorem State.setIff_mem (a b : Bool) : (s.setIff a b).mem = s.mem := rfl
@[simp] theorem State.setIff_rom (a b : Bool) : (s.setIff a b).rom = s.rom := rfl
@[simp] theorem State.setIff_outSlots (a b : Bool) : (s.setIff a b).outSlots = s.outSlots := rfl
@[simp] theorem State.setIff_inSlots (a b : Bool) : (s.setIff a b).inSlots = s.inSlots := rfl
@[simp] theorem State.setIff_memSize (a b : Bool) : (s.setIff a b).memSize = s.memSize := rfl
@[simp] theorem State.setIff_flagsProfile (a b : Bool) : (s.setIff a b).flagsProfile = s.flagsProfile := rfl
@[simp] theorem State.setIff_draws (a b : Bool) : (s.setIff a b).draws = s.draws := rfl

/-! ### `setIm` -/

@[simp] theorem State.setIm_bank0 (m : IntMode) : (s.setIm m).bank0 = s.bank0 := rfl
@[simp] theorem State.setIm_bank1 (m : IntMode) : (s.setIm m).bank1 = s.bank1 := rfl
@[simp] theorem State.setIm_selAf (m : IntMode) : (s.setIm m).selAf = s.selAf := rfl
@[simp] theorem State.setIm_selGp (m : IntMode) : (s.setIm m).selGp = s.selGp := rfl
@[simp] theorem State.setIm_ix (m : IntMode) : (s.setIm m).ix = s.ix := rfl
@[simp] theorem State.setIm_iy (m : IntMode) : (s.setIm m).iy = s.iy := rfl
@[simp] theorem State.setIm_sp (m : IntMode) : (s.setIm m).sp = s.sp := rfl
@[simp] theorem State.setIm_pc (m : IntMode) : (s.setIm m).pc = s.pc := rfl
@[simp] theorem State.setIm_regI (m : IntMode) : (s.setIm m).regI = s.regI := rfl
@[simp] theorem State.setIm_regR (m : IntMode) : (s.setIm m).regR = s.regR := rfl
@[simp] theorem State.setIm_iff1 (m : IntMode) : (s.setIm m).iff1 = s.iff1 := rfl
@[simp] theorem State.setIm_iff2 (m : IntMode) : (s.setIm m).iff2 = s.iff2 := rfl
@[simp] theorem State.setIm_im (m : IntMode) : (s.setIm m).im = m := rfl
@[simp] theorem State.setIm_halted (m : IntMode) : (s.setIm m).halted = s.halted := rfl
@[simp] theorem State.setIm_mem (m : IntMode) : (s.setIm m).mem = s.mem := rfl
@[simp] theorem State.setIm_rom (m : IntMode) : (s.setIm m).rom = s.rom := rfl
@[simp] theorem State.setIm_outSlots (m : IntMode) : (s.setIm m).outSlots = s.outSlots := rfl
@[simp] theorem State.setIm_inSlots (m : IntMode) : (s.setIm m).inSlots = s.inSlots := rfl
@[simp] theorem State.setIm_memSize (m : IntMode) : (s.setIm m).memSize = s.memSize := rfl
@[simp] theorem State.setIm_flagsProfile (m : IntMode) : (s.setIm m).flagsProfile = s.flagsProfile := rfl
@[simp] theorem State.setIm_draws (m : IntMode) : (s.setIm m).draws = s.draws := rfl

/-! ### `setHalted` -/

@[simp] theorem State.setHalted_bank0 (b : Bool) : (s.setHalted b).bank0 = s.bank0 := rfl
@[simp] theorem State.setHalted_bank1 (b : Bool) : (s.setHalted b).bank1 = s.bank1 := rfl
@[simp] theorem State.setHalted_selAf (b : Bool) : (s.setHalted b).selAf = s.selAf := rfl
@[simp] theorem State.setHalted_selGp (b : Bool) : (s.setHalted b).selGp = s.selGp := rfl
@[simp] theorem State.setHalted_ix (b : Bool) : (s.setHalted b).ix = s.ix := rfl
@[simp] theorem State.setHalted_iy (b : Bool) : (s.setHalted b).iy = s.iy := rfl
@[simp] theorem State.setHalted_sp (b : Bool) : (s.setHalted b).sp = s.sp := rfl
@[simp] theorem State.setHalted_pc (b : Bool) : (s.setHalted b).pc = s.pc := rfl
@[simp] theorem State.setHalted_regI (b : Bool) : (s.setHalted b).regI = s.regI := rfl
@[simp] theorem State.setHalted_regR (b : Bool) : (s.setHalted b).regR = s.regR := rfl
@[simp] theorem State.setHalted_iff1 (b : Bool) : (s.setHalted b).iff1 = s.iff1 := rfl
@[simp] theorem State.setHalted_iff2 (b : Bool) : (s.setHalted b).iff2 = s.iff2 := rfl
@[simp] theorem State.setHalted_im (b : Bool) : (s.setHalted b).im = s.im := rfl
@[simp] theorem State.setHalted_halted (b : Bool) : (s.setHalted b).halted = b := rfl
@[simp] theorem State.setHalted_mem (b : Bool) : (s.setHalted b).mem = s.mem := rfl
@[simp] theorem State.setHalted_rom (b : Bool) : (s.setHalted b).rom = s.rom := rfl
@[simp] theorem State.setHalted_outSlots (b : Bool) : (s.setHalted b).outSlots = s.outSlots := rfl
@[simp] theorem State.setHalted_inSlots (b : Bool) : (s.setHalted b).inSlots = s.inSlots := rfl
@[simp] theorem State.setHalted_memSize (b : Bool) : (s.setHalted b).memSize = s.memSize := rfl
@[simp] theorem State.setHalted_flagsProfile (b : Bool) : (s.setHalted b).flagsProfile = s.flagsProfile := rfl
@[simp] theorem State.setHalted_draws (b : Bool) : (s.setHalted b).draws = s.draws := rfl

/-! ### `swapAf` -/

@[simp] theorem State.swapAf_bank0 : (s.swapAf).bank0 = s.bank0 := rfl
@[simp] theorem State.swapAf_bank1 : (s.swapAf).bank1 = s.bank1 := rfl
@[simp] theorem State.swapAf_selAf : (s.swapAf).selAf = !s.selAf := rfl
@[simp] theorem State.swapAf_selGp : (s.swapAf).selGp = s.selGp := rfl
@[simp] theorem State.swapAf_ix : (s.swapAf).ix = s.ix := rfl
@[simp] theorem State.swapAf_iy : (s.swapAf).iy = s.iy := rfl
@[simp] theorem State.swapAf_sp : (s.swapAf).sp = s.sp := rfl
@[simp] theorem State.swapAf_pc : (s.swapAf).pc = s.pc := rfl
@[simp] theorem State.swapAf_regI : (s.swapAf).regI = s.regI := rfl
@[simp] theorem State.swapAf_regR : (s.swapAf).regR = s.regR := rfl
@[simp] theorem State.swapAf_iff1 : (s.swapAf).iff1 = s.iff1 := rfl
@[simp] theorem State.swapAf_iff2 : (s.swapAf).iff2 = s.iff2 := rfl
@[simp] theorem State.swapAf_im : (s.swapAf).im = s.im := rfl
@[simp] theorem State.swapAf_halted : (s.swapAf).halted = s.halted := rfl
@[simp] theorem State.swapAf_mem : (s.swapAf).mem = s.mem := rfl
@[simp] theorem State.swapAf_rom : (s.swapAf).rom = s.rom := rfl
@[simp] theorem State.swapAf_outSlots : (s.swapAf).outSlots = s.outSlots := rfl
@[simp] theorem State.swapAf_inSlots : (s.swapAf).inSlots = s.inSlots := rfl
@[simp] theorem State.swapAf_memSize : (s.swapAf).memSize = s.memSize := rfl
@[simp] theorem State.swapAf_flagsProfile : (s.swapAf).flagsProfile = s.flagsProfile := rfl
@[simp] theorem State.swapAf_draws : (s.swapAf).draws = s.draws := rfl

/-! ### `swapGp` -/

@[simp] theorem State.swapGp_bank0 : (s.swapGp).bank0 = s.bank0 := rfl
@[simp] theorem State.swapGp_bank1 : (s.swapGp).bank1 = s.bank1 := rfl
@[simp] theorem State.swapGp_selAf : (s.swapGp).selAf = s.selAf := rfl
@[simp] theorem State.swapGp_selGp : (s.swapGp).selGp = !s.selGp := rfl
@[simp] theorem State.swapGp_ix : (s.swapGp).ix = s.ix := rfl
@[simp] theorem State.swapGp_iy : (s.swapGp).iy = s.iy := rfl
@[simp] theorem State.swapGp_sp : (s.swapGp).sp = s.sp := rfl
@[simp] theorem State.swapGp_pc : (s.swapGp).pc = s.pc := rfl
@[simp] theorem State.swapGp_regI : (s.swapGp).regI = s.regI := rfl
@[simp] theorem State.swapGp_regR : (s.swapGp).regR = s.regR := rfl
@[simp] theorem State.swapGp_iff1 : (s.swapGp).iff1 = s.iff1 := rfl
@[simp] theorem State.swapGp_iff2 : (s.swapGp).iff2 = s.iff2 := rfl
@[simp] theorem State.swapGp_im : (s.swapGp).im = s.im := rfl
@[simp] theorem State.swapGp_halted : (s.swapGp).halted = s.halted := rfl
@[simp] theorem State.swapGp_mem : (s.swapGp).mem = s.mem := rfl
@[simp] theorem State.swapGp_rom : (s.swapGp).rom = s.rom := rfl
@[simp] theorem State.swapGp_outSlots : (s.swapGp).outSlots = s.outSlots := rfl
@[simp] theorem State.swapGp_inSlots : (s.swapGp).inSlots = s.inSlots := rfl
@[simp] theorem State.swapGp_memSize : (s.swapGp).memSize = s.memSize := rfl
@[simp] theorem State.swapGp_flagsProfile : (s.swapGp).flagsProfile = s.flagsProfile := rfl
@[simp] theorem State.swapGp_draws : (s.swapGp).draws = s.draws := rfl

/-! ### `bumpR` -/

@[simp] theorem State.bumpR_bank0 (n : Nat) : (s.bumpR n).bank0 = s.bank0 := rfl
@[simp] theorem State.bumpR_bank1 (n : Nat) : (s.bumpR n).bank1 = s.bank1 := rfl
@[simp] theorem State.bumpR_selAf (n : Nat) : (s.bumpR n).selAf = s.selAf := rfl
@[simp] theorem State.bumpR_selGp (n : Nat) : (s.bumpR n).selGp = s.selGp := rfl
@[simp] theorem State.bumpR_ix (n : Nat) : (s.bumpR n).ix = s.ix := rfl
@[simp] theorem State.bumpR_iy (n : Nat) : (s.bumpR n).iy = s.iy := rfl
@[simp] theorem State.bumpR_sp (n : Nat) : (s.bumpR n).sp = s.sp := rfl
@[simp] theorem State.bumpR_pc (n : Nat) : (s.bumpR n).pc = s.pc := rfl
@[simp] theorem State.bumpR_regI (n : Nat) : (s.bumpR n).regI = s.regI := rfl
@[simp] theorem State.bumpR_regR (n : Nat) : (s.bumpR n).regR = refreshAfter s.regR n := rfl
@[simp] theorem State.bumpR_iff1 (n : Nat) : (s.bumpR n).iff1 = s.iff1 := rfl
@[simp] theorem State.bumpR_iff2 (n : Nat) : (s.bumpR n).iff2 = s.iff2 := rfl
@[simp] theorem State.bumpR_im (n : Nat) : (s.bumpR n).im = s.im := rfl
@[simp] theorem State.bumpR_halted (n : Nat) : (s.bumpR n).halted = s.halted := rfl
@[simp] theorem State.bumpR_mem (n : Nat) : (s.bumpR n).mem = s.mem := rfl
@[simp] theorem State.bumpR_rom (n : Nat) : (s.bumpR n).rom = s.rom := rfl
@[simp] theorem State.bumpR_outSlots (n : Nat) : (s.bumpR n).outSlots = s.outSlots := rfl
@[simp] theorem State.bumpR_inSlots (n : Nat) : (s.bumpR n).inSlots = s.inSlots := rfl
@[simp] theorem State.bumpR_memSize (n : Nat) : (s.bumpR n).memSize = s.memSize := rfl
@[simp] theorem State.bumpR_flagsProfile (n : Nat) : (s.bumpR n).flagsProfile = s.flagsProfile := rfl
@[simp] theorem State.bumpR_draws (n : Nat) : (s.bumpR n).draws = s.draws := rfl

/-! ### `writeByte` -/

@[simp] theorem State.writeByte_bank0 (a : Word) (v : Byte) : (s.writeByte a v).bank0 = s.bank0 := by unfold State.writeByte; split <;> rfl
@[simp] theorem State.writeByte_bank1 (a : Word) (v : Byte) : (s.writeByte a v).bank1 = s.bank1 := by unfold State.writeByte; split <;> rfl
@[simp] theorem State.writeByte_selAf (a : Word) (v : Byte) : (s.writeByte a v).selAf = s.selAf := by unfold State.writeByte; split <;> rfl
@[simp] theorem State.writeByte_selGp (a : Word) (v : Byte) : (s.writeByte a v).selGp = s.selGp := by unfold State.writeByte; split <;> rfl
@[simp] theorem State.writeByte_ix (a : Word) (v : Byte) : (s.writeByte a v).ix = s.ix := by unfold State.writeByte; split <;> rfl
@[simp] theorem State.writeByte_iy (a : Word) (v : Byte) : (s.writeByte a v).iy = s.iy := by unfold State.writeByte; split <;> rfl
@[simp] theorem State.writeByte_sp (a : Word) (v : Byte) : (s.writeByte a v).sp = s.sp := by unfold State.writeByte; split <;> rfl
@[simp] theorem State.writeByte_pc (a : Word) (v : Byte) : (s.writeByte a v).pc = s.pc := by unfold State.writeByte; split <;> rfl
@[simp] theorem State.writeByte_regI (a : Word) (v : Byte) : (s.writeByte a v).regI = s.regI := by unfold State.writeByte; split <;> rfl
@[simp] theorem State.writeByte_regR (a : Word) (v : Byte) : (s.writeByte a v).regR = s.regR := by unfold State.writeByte; split <;> rfl
@[simp] theorem State.writeByte_iff1 (a : Word) (v : Byte) : (s.writeByte a v).iff1 = s.iff1 := by unfold State.writeByte; split <;> rfl
@[simp] theorem State.writeByte_iff2 (a : Word) (v : Byte) : (s.writeByte a v).iff2 = s.iff2 := by unfold State.writeByte; split <;> rfl
@[simp] theorem State.writeByte_im (a : Word) (v : Byte) : (s.writeByte a v).im = s.im := by unfold State.writeByte; split <;> rfl
@[simp] theorem State.writeByte_halted (a : Word) (v : Byte) : (s.writeByte a v).halted = s.halted := by unfold State.writeByte; split <;> rfl
@[simp] theorem State.writeByte_rom (a : Word) (v : Byte) : (s.writeByte a v).rom = s.rom := by unfold State.writeByte; split <;> rfl
@[simp] theorem State.writeByte_outSlots (a : Word) (v : Byte) : (s.writeByte a v).outSlots = s.outSlots := by unfold State.writeByte; split <;> rfl
@[simp] theorem State.writeByte_inSlots (a : Word) (v : Byte) : (s.writeByte a v).inSlots = s.inSlots := by unfold State.writeByte; split <;> rfl
@[simp] theorem State.writeByte_memSize (a : Word) (v : Byte) : (s.writeByte a v).memSize = s.memSize := by unfold State.writeByte; split <;> rfl
@[simp] theorem State.writeByte_flagsProfile (a : Word) (v : Byte) : (s.writeByte a v).flagsProfile = s.flagsProfile := by unfold State.writeByte; split <;> rfl
@[simp] theorem State.writeByte_draws (a : Word) (v : Byte) : (s.writeByte a v).draws = s.draws := by unfold State.writeByte; split <;> rfl

/-! ### `ioRead` -/

@[simp] theorem State.ioRead_bank0 (p : Word) : (s.ioRead p).bank0 = s.bank0 := by unfold State.ioRead; split <;> rfl
@[simp] theorem State.ioRead_bank1 (p : Word) : (s.ioRead p).bank1 = s.bank1 := by unfold State.ioRead; split <;> rfl
@[simp] theorem State.ioRead_selAf (p : Word) : (s.ioRead p).selAf = s.selAf := by unfold State.ioRead; split <;> rfl
@[simp] theorem State.ioRead_selGp (p : Word) : (s.ioRead p).selGp = s.selGp := by unfold State.ioRead; split <;> rfl
@[simp] theorem State.ioRead_ix (p : Word) : (s.ioRead p).ix = s.ix := by unfold State.ioRead; split <;> rfl
@[simp] theorem State.ioRead_iy (p : Word) : (s.ioRead p).iy = s.iy := by unfold State.ioRead; split <;> rfl
@[simp] theorem State.ioRead_sp (p : Word) : (s.ioRead p).sp = s.sp := by unfold State.ioRead; split <;> rfl
@[simp] theorem State.ioRead_pc (p : Word) : (s.ioRead p).pc = s.pc := by unfold State.ioRead; split <;> rfl
@[simp] theorem State.ioRead_regI (p : Word) : (s.ioRead p).regI = s.regI := by unfold State.ioRead; split <;> rfl
@[simp] theorem State.ioRead_regR (p : Word) : (s.ioRead p).regR = s.regR := by unfold State.ioRead; split <;> rfl
@[simp] theorem State.ioRead_iff1 (p : Word) : (s.ioRead p).iff1 = s.iff1 := by unfold State.ioRead; split <;> rfl
@[simp] theorem State.ioRead_iff2 (p : Word) : (s.ioRead p).iff2 = s.iff2 := by unfold State.ioRead; split <;> rfl
@[simp] theorem State.ioRead_im (p : Word) : (s.ioRead p).im = s.im := by unfold State.ioRead; split <;> rfl
@[simp] theorem State.ioRead_halted (p : Word) : (s.ioRead p).halted = s.halted := by unfold State.ioRead; split <;> rfl
@[simp] theorem State.ioRead_mem (p : Word) : (s.ioRead p).mem = s.mem := by unfold State.ioRead; split <;> rfl
@[simp] theorem State.ioRead_rom (p : Word) : (s.ioRead p).rom = s.rom := by unfold State.ioRead; split <;> rfl
@[simp] theorem State.ioRead_outSlots (p : Word) : (s.ioRead p).outSlots = s.outSlots := by unfold State.ioRead; split <;> rfl
@[simp] theorem State.ioRead_inSlots (p : Word) : (s.ioRead p).inSlots = s.inSlots := by unfold State.ioRead; split <;> rfl
@[simp] theorem State.ioRead_memSize (p : Word) : (s.ioRead p).memSize = s.memSize := by unfold State.ioRead; split <;> rfl
@[simp] theorem State.ioRead_flagsProfile (p : Word) : (s.ioRead p).flagsProfile = s.flagsProfile := by unfold State.ioRead; split <;> rfl

/-! ### `ioWrite` -/

@[simp] theorem State.ioWrite_bank0 (p : Word) (v : Byte) : (s.ioWrite p v).bank0 = s.bank0 := rfl
@[simp] theorem State.ioWrite_bank1 (p : Word) (v : Byte) : (s.ioWrite p v).bank1 = s.bank1 := rfl
@[simp] theorem State.ioWrite_selAf (p : Word) (v : Byte) : (s.ioWrite p v).selAf = s.selAf := rfl
@[simp] theorem State.ioWrite_selGp (p : Word) (v : Byte) : (s.ioWrite p v).selGp = s.selGp := rfl
@[simp] theorem State.ioWrite_ix (p : Word) (v : Byte) : (s.ioWrite p v).ix = s.ix := rfl
@[simp] theorem State.ioWrite_iy (p : Word) (v : Byte) : (s.ioWrite p v).iy = s.iy := rfl
@[simp] theorem State.ioWrite_sp (p : Word) (v : Byte) : (s.ioWrite p v).sp = s.sp := rfl
@[simp] theorem State.ioWrite_pc (p : Word) (v : Byte) : (s.ioWrite p v).pc = s.pc := rfl
@[simp] theorem State.ioWrite_regI (p : Word) (v : Byte) : (s.ioWrite p v).regI = s.regI := rfl
@[simp] theorem State.ioWrite_regR (p : Word) (v : Byte) : (s.ioWrite p v).regR = s.regR := rfl
@[simp] theorem State.ioWrite_iff1 (p : Word) (v : Byte) : (s.ioWrite p v).iff1 = s.iff1 := rfl
@[simp] theorem State.ioWrite_iff2 (p : Word) (v : Byte) : (s.ioWrite p v).iff2 = s.iff2 := rfl
@[simp] theorem State.ioWrite_im (p : Word) (v : Byte) : (s.ioWrite p v).im = s.im := rfl
@[simp] theorem State.ioWrite_halted (p : Word) (v : Byte) : (s.ioWrite p v).halted = s.halted := rfl
@[simp] theorem State.ioWrite_mem (p : Word) (v : Byte) : (s.ioWrite p v).mem = s.mem := rfl
@[simp] theorem State.ioWrite_rom (p : Word) (v : Byte) : (s.ioWrite p v).rom = s.rom := rfl
@[simp] theorem State.ioWrite_inSlots (p : Word) (v : Byte) : (s.ioWrite p v).inSlots = s.inSlots := rfl
@[simp] theorem State.ioWrite_memSize (p : Word) (v : Byte) : (s.ioWrite p v).memSize = s.memSize := rfl
@[simp] theorem State.ioWrite_flagsProfile (p : Word) (v : Byte) : (s.ioWrite p v).flagsProfile = s.flagsProfile := rfl
@[simp] theorem State.ioWrite_draws (p : Word) (v : Byte) : (s.ioWrite p v).draws = s.draws := rfl

/-! ### `reg` after each update that leaves it -/

@[simp] theorem State.setIx_reg (v : Word) (q : Reg8) : (s.setIx v).reg q = s.reg q := rfl
@[simp] theorem State.setIy_reg (v : Word) (q : Reg8) : (s.setIy v).reg q = s.reg q := rfl
@[simp] theorem State.setSp_reg (v : Word) (q : Reg8) : (s.setSp v).reg q = s.reg q := rfl
@[simp] theorem State.setPc_reg (v : Word) (q : Reg8) : (s.setPc v).reg q = s.reg q := rfl
@[simp] theorem State.setI_reg (v : Byte) (q : Reg8) : (s.setI v).reg q = s.reg q := rfl
@[simp] theorem State.setR_reg (v : Byte) (q : Reg8) : (s.setR v).reg q = s.reg q := rfl
@[simp] theorem State.setIff_reg (a b : Bool) (q : Reg8) : (s.setIff a b).reg q = s.reg q := rfl
@[simp] theorem State.setIm_reg (m : IntMode) (q : Reg8) : (s.setIm m).reg q = s.reg q := rfl
@[simp] theorem State.setHalted_reg (b : Bool) (q : Reg8) : (s.setHalted b).reg q = s.reg q := rfl
@[simp] theorem State.bumpR_reg (n : Nat) (q : Reg8) : (s.bumpR n).reg q = s.reg q := rfl
@[simp] theorem State.writeByte_reg (a : Word) (v : Byte) (q : Reg8) : (s.writeByte a v).reg q = s.reg q := by unfold State.writeByte; split <;> rfl
@[simp] theorem State.ioRead_reg (p : Word) (q : Reg8) : (s.ioRead p).reg q = s.reg q := by unfold State.ioRead; split <;> rfl
@[simp] theorem State.ioWrite_reg (p : Word) (v : Byte) (q : Reg8) : (s.ioWrite p v).reg q = s.reg q := rfl

/-! ### `altReg` after each update that leaves it -/

@[simp] theorem State.setIx_altReg (v : Word) (q : Reg8) : (s.setIx v).altReg q = s.altReg q := rfl
@[simp] theorem State.setIy_altReg (v : Word) (q : Reg8) : (s.setIy v).altReg q = s.altReg q := rfl
@[simp] theorem State.setSp_altReg (v : Word) (q : Reg8) : (s.setSp v).altReg q = s.altReg q := rfl
@[simp] theorem State.setPc_altReg (v : Word) (q : Reg8) : (s.setPc v).altReg q = s.altReg q := rfl
@[simp] theorem State.setI_altReg (v : Byte) (q : Reg8) : (s.setI v).altReg q = s.altReg q := rfl
@[simp] theorem State.setR_altReg (v : Byte) (q : Reg8) : (s.setR v).altReg q = s.altReg q := rfl
@[simp] theorem State.setIff_altReg (a b : Bool) (q : Reg8) : (s.setIff a b).altReg q = s.altReg q := rfl
@[simp] theorem State.setIm_altReg (m : IntMode) (q : Reg8) : (s.setIm m).altReg q = s.altReg q := rfl
@[simp] theorem State.setHalted_altReg (b : Bool) (q : Reg8) : (s.setHalted b).altReg q = s.altReg q := rfl
@[simp] theorem State.bumpR_altReg (n : Nat) (q : Reg8) : (s.bumpR n).altReg q = s.altReg q := rfl
@[simp] theorem State.writeByte_altReg (a : Word) (v : Byte) (q : Reg8) : (s.writeByte a v).altReg q = s.altReg q := by unfold State.writeByte; split <;> rfl
@[simp] theorem State.ioRead_altReg (p : Word) (q : Reg8) : (s.ioRead p).altReg q = s.altReg q := by unfold State.ioRead; split <;> rfl
@[simp] theorem State.ioWrite_altReg (p : Word) (v : Byte) (q : Reg8) : (s.ioWrite p v).altReg q = s.altReg q := rfl

/-! ### `f` after each update that leaves it -/

@[simp] theorem State.setIx_f (v : Word) : (s.setIx v).f = s.f := rfl
@[simp] theorem State.setIy_f (v : Word) : (s.setIy v).f = s.f := rfl
@[simp] theorem State.setSp_f (v : Word) : (s.setSp v).f = s.f := rfl
@[simp] theorem State.setPc_f (v : Word) : (s.setPc v).f = s.f := rfl
@[simp] theorem State.setI_f (v : Byte) : (s.setI v).f = s.f := rfl
@[simp] theorem State.setR_f (v : Byte) : (s.setR v).f = s.f := rfl
@[simp] theorem State.setIff_f (a b : Bool) : (s.setIff a b).f = s.f := rfl
@[simp] theorem State.setIm_f (m : IntMode) : (s.setIm m).f = s.f := rfl
@[simp] theorem State.setHalted_f (b : Bool) : (s.setHalted b).f = s.f := rfl
@[simp] theorem State.bumpR_f (n : Nat) : (s.bumpR n).f = s.f := rfl
@[simp] theorem State.writeByte_f (a : Word) (v : Byte) : (s.writeByte a v).f = s.f := by unfold State.writeByte; split <;> rfl
@[simp] theorem State.ioRead_f (p : Word) : (s.ioRead p).f = s.f := by unfold State.ioRead; split <;> rfl
@[simp] theorem State.ioWrite_f (p : Word) (v : Byte) : (s.ioWrite p v).f = s.f := rfl

/-! ### `altF` after each update that leaves it -/

@[simp] theorem State.setIx_altF (v : Word) : (s.setIx v).altF = s.altF := rfl
@[simp] theorem State.setIy_altF (v : Word) : (s.setIy v).altF = s.altF := rfl
@[simp] theorem State.setSp_altF (v : Word) : (s.setSp v).altF = s.altF := rfl
@[simp] theorem State.setPc_altF (v : Word) : (s.setPc v).altF = s.altF := rfl
@[simp] theorem State.setI_altF (v : Byte) : (s.setI v).altF = s.altF := rfl
@[simp] theorem State.setR_altF (v : Byte) : (s.setR v).altF = s.altF := rfl
@[simp] theorem State.setIff_altF (a b : Bool) : (s.setIff a b).altF = s.altF := rfl
@[simp] theorem State.setIm_altF (m : IntMode) : (s.setIm m).altF = s.altF := rfl
@[simp] theorem State.setHalted_altF (b : Bool) : (s.setHalted b).altF = s.altF := rfl
@[simp] theorem State.bumpR_altF (n : Nat) : (s.bumpR n).altF = s.altF := rfl
@[simp] theorem State.writeByte_altF (a : Word) (v : Byte) : (s.writeByte a v).altF = s.altF := by unfold State.writeByte; split <;> rfl
@[simp] theorem State.ioRead_altF (p : Word) : (s.ioRead p).altF = s.altF := by unfold State.ioRead; split <;> rfl
@[simp] theorem State.ioWrite_altF (p : Word) (v : Byte) : (s.ioWrite p v).altF = s.altF := rfl

/-! ### `flags` after each update that leaves it -/

@[simp] theorem State.setIx_flags (v : Word) : (s.setIx v).flags = s.flags := rfl
@[simp] theorem State.setIy_flags (v : Word) : (s.setIy v).flags = s.flags := rfl
@[simp] theorem State.setSp_flags (v : Word) : (s.setSp v).flags = s.flags := rfl
@[simp] theorem State.setPc_flags (v : Word) : (s.setPc v).flags = s.flags := rfl
@[simp] theorem State.setI_flags (v : Byte) : (s.setI v).flags = s.flags := rfl
@[simp] theorem State.setR_flags (v : Byte) : (s.setR v).flags = s.flags := rfl
@[simp] theorem State.setIff_flags (a b : Bool) : (s.setIff a b).flags = s.flags := rfl
@[simp] theorem State.setIm_flags (m : IntMode) : (s.setIm m).flags = s.flags := rfl
@[simp] theorem State.setHalted_flags (b : Bool) : (s.setHalted b).flags = s.flags := rfl
@[simp] theorem State.bumpR_flags (n : Nat) : (s.bumpR n).flags = s.flags := rfl
@[simp] theorem State.writeByte_flags (a : Word) (v : Byte) : (s.writeByte a v).flags = s.flags := by unfold State.writeByte; split <;> rfl
@[simp] theorem State.ioRead_flags (p : Word) : (s.ioRead p).flags = s.flags := by unfold State.ioRead; split <;> rfl
@[simp] theorem State.ioWrite_flags (p : Word) (v : Byte) : (s.ioWrite p v).flags = s.flags := rfl

/-! ### `flag` after each update that leaves it -/

@[simp] theorem State.setIx_flag (v : Word) (name : FlagName) : (s.setIx v).flag name = s.flag name := rfl
@[simp] theorem State.setIy_flag (v : Word) (name : FlagName) : (s.setIy v).flag name = s.flag name := rfl
@[simp] theorem State.setSp_flag (v : Word) (name : FlagName) : (s.setSp v).flag name = s.flag name := rfl
@[simp] theorem State.setPc_flag (v : Word) (name : FlagName) : (s.setPc v).flag name = s.flag name := rfl
@[simp] theorem State.setI_flag (v : Byte) (name : FlagName) : (s.setI v).flag name = s.flag name := rfl
@[simp] theorem State.setR_flag (v : Byte) (name : FlagName) : (s.setR v).flag name = s.flag name := rfl
@[simp] theorem State.setIff_flag (a b : Bool) (name : FlagName) : (s.setIff a b).flag name = s.flag name := rfl
@[simp] theorem State.setIm_flag (m : IntMode) (name : FlagName) : (s.setIm m).flag name = s.flag name := rfl
@[simp] theorem State.setHalted_flag (b : Bool) (name : FlagName) : (s.setHalted b).flag name = s.flag name := rfl
@[simp] theorem State.bumpR_flag (n : Nat) (name : FlagName) : (s.bumpR n).flag name = s.flag name := rfl
@[simp] theorem State.writeByte_flag (a : Word) (v : Byte) (name : FlagName) : (s.writeByte a v).flag name = s.flag name := by unfold State.writeByte; split <;> rfl
@[simp] theorem State.ioRead_flag (p : Word) (name : FlagName) : (s.ioRead p).flag name = s.flag name := by unfold State.ioRead; split <;> rfl
@[simp] theorem State.ioWrite_flag (p : Word) (v : Byte) (name : FlagName) : (s.ioWrite p v).flag name = s.flag name := rfl

/-! ### `bc` after each update that leaves it -/

@[simp] theorem State.setIx_bc (v : Word) : (s.setIx v).bc = s.bc := rfl
@[simp] theorem State.setIy_bc (v : Word) : (s.setIy v).bc = s.bc := rfl
@[simp] theorem State.setSp_bc (v : Word) : (s.setSp v).bc = s.bc := rfl
@[simp] theorem State.setPc_bc (v : Word) : (s.setPc v).bc = s.bc := rfl
@[simp] theorem State.setI_bc (v : Byte) : (s.setI v).bc = s.bc := rfl
@[simp] theorem State.setR_bc (v : Byte) : (s.setR v).bc = s.bc := rfl
@[simp] theorem State.setIff_bc (a b : Bool) : (s.setIff a b).bc = s.bc := rfl
@[simp] theorem State.setIm_bc (m : IntMode) : (s.setIm m).bc = s.bc := rfl
@[simp] theorem State.setHalted_bc (b : Bool) : (s.setHalted b).bc = s.bc := rfl
@[simp] theorem State.bumpR_bc (n : Nat) : (s.bumpR n).bc = s.bc := rfl
@[simp] theorem State.writeByte_bc (a : Word) (v : Byte) : (s.writeByte a v).bc = s.bc := by unfold State.writeByte; split <;> rfl
@[simp] theorem State.ioRead_bc (p : Word) : (s.ioRead p).bc = s.bc := by unfold State.ioRead; split <;> rfl
@[simp] theorem State.ioWrite_bc (p : Word) (v : Byte) : (s.ioWrite p v).bc = s.bc := rfl

/-! ### `de` after each update that leaves it -/

@[simp] theorem State.setIx_de (v : Word) : (s.setIx v).de = s.de := rfl
@[simp] theorem State.setIy_de (v : Word) : (s.setIy v).de = s.de := rfl
@[simp] theorem State.setSp_de (v : Word) : (s.setSp v).de = s.de := rfl
@[simp] theorem State.setPc_de (v : Word) : (s.setPc v).de = s.de := rfl
@[simp] theorem State.setI_de (v : Byte) : (s.setI v).de = s.de := rfl
@[simp] theorem State.setR_de (v : Byte) : (s.setR v).de = s.de := rfl
@[simp] theorem State.setIff_de (a b : Bool) : (s.setIff a b).de = s.de := rfl
@[simp] theorem State.setIm_de (m : IntMode) : (s.setIm m).de = s.de := rfl
@[simp] theorem State.setHalted_de (b : Bool) : (s.setHalted b).de = s.de := rfl
@[simp] theorem State.bumpR_de (n : Nat) : (s.bumpR n).de = s.de := rfl
@[simp] theorem State.writeByte_de (a : Word) (v : Byte) : (s.writeByte a v).de = s.de := by unfold State.writeByte; split <;> rfl
@[simp] theorem State.ioRead_de (p : Word) : (s.ioRead p).de = s.de := by unfold State.ioRead; split <;> rfl
@[simp] theorem State.ioWrite_de (p : Word) (v : Byte) : (s.ioWrite p v).de = s.de := rfl

/-! ### `hl` after each update that leaves it -/

@[simp] theorem State.setIx_hl (v : Word) : (s.setIx v).hl = s.hl := rfl
@[simp] theorem State.setIy_hl (v : Word) : (s.setIy v).hl = s.hl := rfl
@[simp] theorem State.setSp_hl (v : Word) : (s.setSp v).hl = s.hl := rfl
@[simp] theorem State.setPc_hl (v : Word) : (s.setPc v).hl = s.hl := rfl
@[simp] theorem State.setI_hl (v : Byte) : (s.setI v).hl = s.hl := rfl
@[simp] theorem State.setR_hl (v : Byte) : (s.setR v).hl = s.hl := rfl
@[simp] theorem State.setIff_hl (a b : Bool) : (s.setIff a b).hl = s.hl := rfl
@[simp] theorem State.setIm_hl (m : IntMode) : (s.setIm m).hl = s.hl := rfl
@[simp] theorem State.setHalted_hl (b : Bool) : (s.setHalted b).hl = s.hl := rfl
@[simp] theorem State.bumpR_hl (n : Nat) : (s.bumpR n).hl = s.hl := rfl
@[simp] theorem State.writeByte_hl (a : Word) (v : Byte) : (s.writeByte a v).hl = s.hl := by unfold State.writeByte; split <;> rfl
@[simp] theorem State.ioRead_hl (p : Word) : (s.ioRead p).hl = s.hl := by unfold State.ioRead; split <;> rfl
@[simp] theorem State.ioWrite_hl (p : Word) (v : Byte) : (s.ioWrite p v).hl = s.hl := rfl

/-! ### `readByte` after each update that leaves it -/

@[simp] theorem State.setReg_readByte (r : Reg8) (v : Byte) (c : Word) : (s.setReg r v).readByte c = s.readByte c := by simp [State.readByte]
@[simp] theorem State.setF_readByte (v : Byte) (c : Word) : (s.setF v).readByte c = s.readByte c := by simp [State.readByte]
@[simp] theorem State.setFlags_readByte (fl : Flags) (c : Word) : (s.setFlags fl).readByte c = s.readByte c := by simp [State.readByte]
@[simp] theorem State.setIx_readByte (v : Word) (c : Word) : (s.setIx v).readByte c = s.readByte c := rfl
@[simp] theorem State.setIy_readByte (v : Word) (c : Word) : (s.setIy v).readByte c = s.readByte c := rfl
@[simp] theorem State.setSp_readByte (v : Word) (c : Word) : (s.setSp v).readByte c = s.readByte c := rfl
@[simp] theorem State.setPc_readByte (v : Word) (c : Word) : (s.setPc v).readByte c = s.readByte c := rfl
@[simp] theorem State.setI_readByte (v : Byte) (c : Word) : (s.setI v).readByte c = s.readByte c := rfl
@[simp] theorem State.setR_readByte (v : Byte) (c : Word) : (s.setR v).readByte c = s.readByte c := rfl
@[simp] theorem State.setIff_readByte (a b : Bool) (c : Word) : (s.setIff a b).readByte c = s.readByte c := rfl
@[simp] theorem State.setIm_readByte (m : IntMode) (c : Word) : (s.setIm m).readByte c = s.readByte c := rfl
@[simp] theorem State.setHalted_readByte (b : Bool) (c : Word) : (s.setHalted b).readByte c = s.readByte c := rfl
@[simp] theorem State.swapAf_readByte (c : Word) : (s.swapAf).readByte c = s.readByte c := rfl
@[simp] theorem State.swapGp_readByte (c : Word) : (s.swapGp).readByte c = s.readByte c := rfl
@[simp] theorem State.bumpR_readByte (n : Nat) (c : Word) : (s.bumpR n).readByte c = s.readByte c := rfl
@[simp] theorem State.ioRead_readByte (p : Word) (c : Word) : (s.ioRead p).readByte c = s.readByte c := by simp [State.readByte]
@[simp] theorem State.ioWrite_readByte (p : Word) (v : Byte) (c : Word) : (s.ioWrite p v).readByte c = s.readByte c := rfl

/-! ### `writable` after each update that leaves it -/

@[simp] theorem State.setReg_writable (r : Reg8) (v : Byte) (c : Word) : (s.setReg r v).writable c = s.writable c := by simp [State.writable, State.inRom]
@[simp] theorem State.setF_writable (v : Byte) (c : Word) : (s.setF v).writable c = s.writable c := by simp [State.writable, State.inRom]
@[simp] theorem State.setFlags_writable (fl : Flags) (c : Word) : (s.setFlags fl).writable c = s.writable c := by simp [State.writable, State.inRom]
@[simp] theorem State.setIx_writable (v : Word) (c : Word) : (s.setIx v).writable c = s.writable c := rfl
@[simp] theorem State.setIy_writable (v : Word) (c : Word) : (s.setIy v).writable c = s.writable c := rfl
@[simp] theorem State.setSp_writable (v : Word) (c : Word) : (s.setSp v).writable c = s.writable c := rfl
@[simp] theorem State.setPc_writable (v : Word) (c : Word) : (s.setPc v).writable c = s.writable c := rfl
@[simp] theorem State.setI_writable (v : Byte) (c : Word) : (s.setI v).writable c = s.writable c := rfl
@[simp] theorem State.setR_writable (v : Byte) (c : Word) : (s.setR v).writable c = s.writable c := rfl
@[simp] theorem State.setIff_writable (a b : Bool) (c : Word) : (s.setIff a b).writable c = s.writable c := rfl
@[simp] theorem State.setIm_writable (m : IntMode) (c : Word) : (s.setIm m).writable c = s.writable c := rfl
@[simp] theorem State.setHalted_writable (b : Bool) (c : Word) : (s.setHalted b).writable c = s.writable c := rfl
@[simp] theorem State.swapAf_writable (c : Word) : (s.swapAf).writable c = s.writable c := rfl
@[simp] theorem State.swapGp_writable (c : Word) : (s.swapGp).writable c = s.writable c := rfl
@[simp] theorem State.bumpR_writable (n : Nat) (c : Word) : (s.bumpR n).writable c = s.writable c := rfl
@[simp] theorem State.writeByte_writable (a : Word) (v : Byte) (c : Word) : (s.writeByte a v).writable c = s.writable c := by simp [State.writable, State.inRom]
@[simp] theorem State.ioRead_writable (p : Word) (c : Word) : (s.ioRead p).writable c = s.writable c := by simp [State.writable, State.inRom]
@[simp] theorem State.ioWrite_writable (p : Word) (v : Byte) (c : Word) : (s.ioWrite p v).writable c = s.writable c := rfl

/-! ### `inSlot` after each update that leaves it -/

@[simp] theorem State.setReg_inSlot (r : Reg8) (v : Byte) (q : Byte) : (s.setReg r v).inSlot q = s.inSlot q := by simp [State.inSlot]
@[simp] theorem State.setF_inSlot (v : Byte) (q : Byte) : (s.setF v).inSlot q = s.inSlot q := by simp [State.inSlot]
@[simp] theorem State.setFlags_inSlot (fl : Flags) (q : Byte) : (s.setFlags fl).inSlot q = s.inSlot q := by simp [State.inSlot]
@[simp] theorem State.setIx_inSlot (v : Word) (q : Byte) : (s.setIx v).inSlot q = s.inSlot q := rfl
@[simp] theorem State.setIy_inSlot (v : Word) (q : Byte) : (s.setIy v).inSlot q = s.inSlot q := rfl
@[simp] theorem State.setSp_inSlot (v : Word) (q : Byte) : (s.setSp v).inSlot q = s.inSlot q := rfl
@[simp] theorem State.setPc_inSlot (v : Word) (q : Byte) : (s.setPc v).inSlot q = s.inSlot q := rfl
@[simp] theorem State.setI_inSlot (v : Byte) (q : Byte) : (s.setI v).inSlot q = s.inSlot q := rfl
@[simp] theorem State.setR_inSlot (v : Byte) (q : Byte) : (s.setR v).inSlot q = s.inSlot q := rfl
@[simp] theorem State.setIff_inSlot (a b : Bool) (q : Byte) : (s.setIff a b).inSlot q = s.inSlot q := rfl
@[simp] theorem State.setIm_inSlot (m : IntMode) (q : Byte) : (s.setIm m).inSlot q = s.inSlot q := rfl
@[simp] theorem State.setHalted_inSlot (b : Bool) (q : Byte) : (s.setHalted b).inSlot q = s.inSlot q := rfl
@[simp] theorem State.swapAf_inSlot (q : Byte) : (s.swapAf).inSlot q = s.inSlot q := rfl
@[simp] theorem State.swapGp_inSlot (q : Byte) : (s.swapGp).inSlot q = s.inSlot q := rfl
@[simp] theorem State.bumpR_inSlot (n : Nat) (q : Byte) : (s.bumpR n).inSlot q = s.inSlot q := rfl
@[simp] theorem State.writeByte_inSlot (a : Word) (v : Byte) (q : Byte) : (s.writeByte a v).inSlot q = s.inSlot q := by simp [State.inSlot]
@[simp] theorem State.ioRead_inSlot (p : Word) (q : Byte) : (s.ioRead p).inSlot q = s.inSlot q := by simp [State.inSlot]
@[simp] theorem State.ioWrite_inSlot (p : Word) (v : Byte) (q : Byte) : (s.ioWrite p v).inSlot q = s.inSlot q := rfl

/-! ### `outSlot` after each update that leaves it -/

@[simp] theorem State.setReg_outSlot (r : Reg8) (v : Byte) (q : Byte) : (s.setReg r v).outSlot q = s.outSlot q := by simp [State.outSlot]
@[simp] theorem State.setF_outSlot (v : Byte) (q : Byte) : (s.setF v).outSlot q = s.outSlot q := by simp [State.outSlot]
@[simp] theorem State.setFlags_outSlot (fl : Flags) (q : Byte) : (s.setFlags fl).outSlot q = s.outSlot q := by simp [State.outSlot]
@[simp] theorem State.setIx_outSlot (v : Word) (q : Byte) : (s.setIx v).outSlot q = s.outSlot q := rfl
@[simp] theorem State.setIy_outSlot (v : Word) (q : Byte) : (s.setIy v).outSlot q = s.outSlot q := rfl
@[simp] theorem State.setSp_outSlot (v : Word) (q : Byte) : (s.setSp v).outSlot q = s.outSlot q := rfl
@[simp] theorem State.setPc_outSlot (v : Word) (q : Byte) : (s.setPc v).outSlot q = s.outSlot q := rfl
@[simp] theorem State.setI_outSlot (v : Byte) (q : Byte) : (s.setI v).outSlot q = s.outSlot q := rfl
@[simp] theorem State.setR_outSlot (v : Byte) (q : Byte) : (s.setR v).outSlot q = s.outSlot q := rfl
@[simp] theorem State.setIff_outSlot (a b : Bool) (q : Byte) : (s.setIff a b).outSlot q = s.outSlot q := rfl
@[simp] theorem State.setIm_outSlot (m : IntMode) (q : Byte) : (s.setIm m).outSlot q = s.outSlot q := rfl
@[simp] theorem State.setHalted_outSlot (b : Bool) (q : Byte) : (s.setHalted b).outSlot q = s.outSlot q := rfl
@[simp] theorem State.swapAf_outSlot (q : Byte) : (s.swapAf).outSlot q = s.outSlot q := rfl
@[simp] theorem State.swapGp_outSlot (q : Byte) : (s.swapGp).outSlot q = s.outSlot q := rfl
@[simp] theorem State.bumpR_outSlot (n : Nat) (q : Byte) : (s.bumpR n).outSlot q = s.outSlot q := rfl
@[simp] theorem State.writeByte_outSlot (a : Word) (v : Byte) (q : Byte) : (s.writeByte a v).outSlot q = s.outSlot q := by simp [State.outSlot]
@[simp] theorem State.ioRead_outSlot (p : Word) (q : Byte) : (s.ioRead p).outSlot q = s.outSlot q := by simp [State.outSlot]

/-! ### `index` after each update that leaves it -/

@[simp] theorem State.setReg_index (r : Reg8) (v : Byte) (k : Index) : (s.setReg r v).index k = s.index k := by cases k <;> simp [State.index]
@[simp] theorem State.setF_index (v : Byte) (k : Index) : (s.setF v).index k = s.index k := by cases k <;> simp [State.index]
@[simp] theorem State.setFlags_index (fl : Flags) (k : Index) : (s.setFlags fl).index k = s.index k := by cases k <;> simp [State.index]
@[simp] theorem State.setSp_index (v : Word) (k : Index) : (s.setSp v).index k = s.index k := rfl
@[simp] theorem State.setPc_index (v : Word) (k : Index) : (s.setPc v).index k = s.index k := rfl
@[simp] theorem State.setI_index (v : Byte) (k : Index) : (s.setI v).index k = s.index k := rfl
@[simp] theorem State.setR_index (v : Byte) (k : Index) : (s.setR v).index k = s.index k := rfl
@[simp] theorem State.setIff_index (a b : Bool) (k : Index) : (s.setIff a b).index k = s.index k := rfl
@[simp] theorem State.setIm_index (m : IntMode) (k : Index) : (s.setIm m).index k = s.index k := rfl
@[simp] theorem State.setHalted_index (b : Bool) (k : Index) : (s.setHalted b).index k = s.index k := rfl
@[simp] theorem State.swapAf_index (k : Index) : (s.swapAf).index k = s.index k := rfl
@[simp] theorem State.swapGp_index (k : Index) : (s.swapGp).index k = s.index k := rfl
@[simp] theorem State.bumpR_index (n : Nat) (k : Index) : (s.bumpR n).index k = s.index k := rfl
@[simp] theorem State.writeByte_index (a : Word) (v : Byte) (k : Index) : (s.writeByte a v).index k = s.index k := by cases k <;> simp [State.index]
@[simp] theorem State.ioRead_index (p : Word) (k : Index) : (s.ioRead p).index k = s.index k := by cases k <;> simp [State.index]
@[simp] theorem State.ioWrite_index (p : Word) (v : Byte) (k : Index) : (s.ioWrite p v).index k = s.index k := rfl

/-! ### The views that an update changes -/

theorem Bank.get_set (k : Bank) (r q : Reg8) (v : Byte) : (k.set r v).get q = if q = r then v else k.get q := by
  cases r <;> cases q <;> rfl

theorem Bank.set_f (k : Bank) (r : Reg8) (v : Byte) : (k.set r v).f = k.f := by cases r <;> rfl

theorem State.setReg_selectorOf (r q : Reg8) (v : Byte) : (s.setReg r v).selectorOf q = s.selectorOf q := by
  cases q <;> simp [State.selectorOf]

@[simp] theorem State.setReg_reg (r q : Reg8) (v : Byte) :
    (s.setReg r v).reg q = if q = r then v else s.reg q := by
  cases r <;> cases q <;> cases hA : s.selAf <;> cases hG : s.selGp <;>
    simp [State.reg, State.setReg, State.selectorOf, Bank.get, Bank.set, hA, hG]

@[simp] theorem State.setReg_altReg (r q : Reg8) (v : Byte) : (s.setReg r v).altReg q = s.altReg q := by
  cases r <;> cases q <;> cases hA : s.selAf <;> cases hG : s.selGp <;>
    simp [State.altReg, State.setReg, State.selectorOf, Bank.get, Bank.set, hA, hG]

@[simp] theorem State.setReg_f (r : Reg8) (v : Byte) : (s.setReg r v).f = s.f := by
  unfold State.setReg State.f
  split <;> split <;> simp_all [Bank.set_f]

@[simp] theorem State.setReg_altF (r : Reg8) (v : Byte) : (s.setReg r v).altF = s.altF := by
  unfold State.setReg State.altF
  split <;> split <;> simp_all [Bank.set_f]

@[simp] theorem State.setReg_flags (r : Reg8) (v : Byte) : (s.setReg r v).flags = s.flags := by simp [State.flags]

@[simp] theorem State.setReg_flag (r : Reg8) (v : Byte) (name : FlagName) : (s.setReg r v).flag name = s.flag name := by
  simp [State.flag]

@[simp] theorem State.setF_reg (v : Byte) (q : Reg8) : (s.setF v).reg q = s.reg q := by
  cases q <;> cases hA : s.selAf <;> cases hG : s.selGp <;>
    simp [State.reg, State.setF, State.selectorOf, Bank.get, hA, hG]

@[simp] theorem State.setF_altReg (v : Byte) (q : Reg8) : (s.setF v).altReg q = s.altReg q := by
  cases q <;> cases hA : s.selAf <;> cases hG : s.selGp <;>
    simp [State.altReg, State.setF, State.selectorOf, Bank.get, hA, hG]

@[simp] theorem State.setF_f (v : Byte) : (s.setF v).f = v := by cases h : s.selAf <;> simp [State.setF, State.f, h]

@[simp] theorem State.setF_altF (v : Byte) : (s.setF v).altF = s.altF := by
  cases h : s.selAf <;> simp [State.setF, State.altF, h]

@[simp] theorem State.setF_bc (v : Byte) : (s.setF v).bc = s.bc := by simp [State.bc]
@[simp] theorem State.setF_de (v : Byte) : (s.setF v).de = s.de := by simp [State.de]
@[simp] theorem State.setF_hl (v : Byte) : (s.setF v).hl = s.hl := by simp [State.hl]

/-- From-byte after to-byte (10_state.md R30). -/
@[simp] theorem Flags.ofByte_toByte (fl : Flags) : Flags.ofByte fl.toByte = fl := by
  obtain ⟨a, b, c, d, e, f, g, h⟩ := fl
  revert a b c d e f g h
  decide

@[simp] theorem State.setFlags_reg (fl : Flags) (q : Reg8) : (s.setFlags fl).reg q = s.reg q := by
  simp [State.setFlags]
@[simp] theorem State.setFlags_altReg (fl : Flags) (q : Reg8) : (s.setFlags fl).altReg q = s.altReg q := by
  simp [State.setFlags]
@[simp] theorem State.setFlags_f (fl : Flags) : (s.setFlags fl).f = fl.toByte := by simp [State.setFlags]
@[simp] theorem State.setFlags_altF (fl : Flags) : (s.setFlags fl).altF = s.altF := by simp [State.setFlags]
@[simp] theorem State.setFlags_flags (fl : Flags) : (s.setFlags fl).flags = fl := by simp [State.flags]
@[simp] theorem State.setFlags_flag (fl : Flags) (name : FlagName) : (s.setFlags fl).flag name = fl.get name := by
  simp [State.flag]
@[simp] theorem State.setFlags_bc (fl : Flags) : (s.setFlags fl).bc = s.bc := by simp [State.bc]
@[simp] theorem State.setFlags_de (fl : Flags) : (s.setFlags fl).de = s.de := by simp [State.de]
@[simp] theorem State.setFlags_hl (fl : Flags) : (s.setFlags fl).hl = s.hl := by simp [State.hl]

@[simp] theorem State.setIx_index (v : Word) (k : Index) : (s.setIx v).index k = if k = .ix then v else s.index k := by
  cases k <;> rfl

@[simp] theorem State.setIy_index (v : Word) (k : Index) : (s.setIy v).index k = if k = .iy then v else s.index k := by
  cases k <;> rfl

/-- EX AF,AF': A and its primed copy change places, the other registers stay (42_exchange_block.md R301). -/
@[simp] theorem State.swapAf_reg (q : Reg8) : s.swapAf.reg q = if q = .a then s.altReg .a else s.reg q := by
  cases q <;> first
    | rfl
    | (cases hA : s.selAf <;> simp [State.swapAf, State.reg, State.altReg, State.selectorOf, hA])

@[simp] theorem State.swapAf_altReg (q : Reg8) : s.swapAf.altReg q = if q = .a then s.reg .a else s.altReg q := by
  cases q <;> first
    | rfl
    | (cases hA : s.selAf <;> simp [State.swapAf, State.reg, State.altReg, State.selectorOf, hA])

@[simp] theorem State.swapAf_f : s.swapAf.f = s.altF := by
  cases hA : s.selAf <;> simp [State.swapAf, State.f, State.altF, hA]

@[simp] theorem State.swapAf_altF : s.swapAf.altF = s.f := by
  cases hA : s.selAf <;> simp [State.swapAf, State.f, State.altF, hA]

/-- EXX: the six registers and their primed copies change places, A stays (42_exchange_block.md R302). -/
@[simp] theorem State.swapGp_reg (q : Reg8) : s.swapGp.reg q = if q = .a then s.reg .a else s.altReg q := by
  cases q <;> first
    | rfl
    | (cases hG : s.selGp <;> simp [State.swapGp, State.reg, State.altReg, State.selectorOf, hG])

@[simp] theorem State.swapGp_altReg (q : Reg8) : s.swapGp.altReg q = if q = .a then s.altReg .a else s.reg q := by
  cases q <;> first
    | rfl
    | (cases hG : s.selGp <;> simp [State.swapGp, State.reg, State.altReg, State.selectorOf, hG])

@[simp] theorem State.swapGp_f : s.swapGp.f = s.f := rfl

@[simp] theorem State.swapGp_altF : s.swapGp.altF = s.altF := rfl

@[simp] theorem State.swapGp_flags : s.swapGp.flags = s.flags := rfl

end Sys2Proof.Machine
end

