-- ==== Sys2Proof/Laws/Memory.lean ====
section
/-! SUPPORT. Memory and slots: what a read gives after a write, and that every operation keeps the canonical form
(20_memory.md R72 to R76; 10_state.md R46). -/

namespace Sys2Proof.Machine

/-! ### Lists of cells -/

theorem cellsGet_put (m : List Host.Cell) (a b : Nat) (v : Byte) :
    cellsGet (cellsPut m a v) b = if b = a then some v else cellsGet m b := by
  induction m with
  | nil => simp [cellsPut, cellsGet, eq_comm]
  | cons cell rest ih =>
    obtain ⟨k, w⟩ := cell
    by_cases hb : b = a
    · subst hb
      simp only [cellsPut, if_true]
      split
      · simp [cellsGet]
      · split
        · simp [cellsGet]
        · rename_i h; simp [cellsGet, ih, Ne.symm h]
    · simp only [cellsPut, if_neg hb]
      split
      · simp [cellsGet, Ne.symm hb]
      · split
        · rename_i h; subst h; simp [cellsGet, Ne.symm hb]
        · simp [cellsGet, ih, hb]

theorem cellsGet_drop (m : List Host.Cell) (a b : Nat) :
    cellsGet (cellsDrop m a) b = if b = a then none else cellsGet m b := by
  induction m with
  | nil => simp [cellsDrop, cellsGet]
  | cons cell rest ih =>
    obtain ⟨k, w⟩ := cell
    simp only [cellsDrop]
    split
    · simp only [ih, cellsGet]; split <;> [rfl; split] <;> first | rfl | omega
    · simp only [cellsGet, ih]; split <;> split <;> first | rfl | omega

theorem all_cellsPut (P : Host.Cell → Bool) (m : List Host.Cell) (a : Nat) (v : Byte) (hP : P (a, v) = true)
    (hm : m.all P = true) : (cellsPut m a v).all P = true := by
  induction m with
  | nil => simpa [cellsPut] using hP
  | cons cell rest ih =>
    obtain ⟨k, w⟩ := cell
    simp only [List.all_cons, Bool.and_eq_true] at hm
    simp only [cellsPut]
    split
    · simp_all
    · split <;> simp_all

theorem all_cellsDrop (P : Host.Cell → Bool) (m : List Host.Cell) (a : Nat) (hm : m.all P = true) :
    (cellsDrop m a).all P = true := by
  induction m with
  | nil => rfl
  | cons cell rest ih =>
    obtain ⟨k, w⟩ := cell
    simp only [List.all_cons, Bool.and_eq_true] at hm
    simp only [cellsDrop]
    split <;> simp_all

theorem cellsSorted_put (m : List Host.Cell) (a : Nat) (v : Byte) (hm : cellsSorted m = true) :
    cellsSorted (cellsPut m a v) = true := by
  induction m with
  | nil => rfl
  | cons cell rest ih =>
    obtain ⟨k, w⟩ := cell
    simp only [cellsSorted, Bool.and_eq_true] at hm
    simp only [cellsPut]
    split
    · rename_i h
      simp only [cellsSorted, List.all_cons, hm.1, hm.2, Bool.and_true, Bool.and_eq_true, decide_eq_true_eq]
      refine ⟨h, ?_⟩
      have h1 := hm.1
      simp only [List.all_eq_true, decide_eq_true_eq] at h1 ⊢
      exact fun c hc => Nat.lt_trans h (h1 c hc)
    · split
      · rename_i h
        subst h
        simp [cellsSorted, hm.1, hm.2]
      · simp only [cellsSorted, Bool.and_eq_true]
        exact ⟨all_cellsPut _ _ _ _ (by simp; omega) hm.1, ih hm.2⟩

theorem cellsSorted_drop (m : List Host.Cell) (a : Nat) (hm : cellsSorted m = true) :
    cellsSorted (cellsDrop m a) = true := by
  induction m with
  | nil => rfl
  | cons cell rest ih =>
    obtain ⟨k, w⟩ := cell
    simp only [cellsSorted, Bool.and_eq_true] at hm
    simp only [cellsDrop]
    split
    · exact ih hm.2
    · simp only [cellsSorted, Bool.and_eq_true]
      exact ⟨all_cellsDrop _ _ _ hm.1, ih hm.2⟩

/-! ### The memory array -/

theorem Memory.get_put (m : Memory) (a b : Nat) (v : Byte) :
    (m.put a v).get b = if b = a then v else m.get b := by
  unfold Memory.put Memory.get
  split
  · rename_i h; rw [cellsGet_drop]; split <;> simp [h]
  · rw [cellsGet_put]; split <;> simp

theorem Memory.wf_put (m : Memory) (a : Nat) (v : Byte) (hm : m.wf = true) : (m.put a v).wf = true := by
  simp only [Memory.wf, Bool.and_eq_true] at hm ⊢
  unfold Memory.put
  split
  · exact ⟨cellsSorted_drop _ _ hm.1, all_cellsDrop _ _ _ hm.2⟩
  · rename_i h
    exact ⟨cellsSorted_put _ _ _ hm.1, all_cellsPut _ _ _ _ (by simpa using h) hm.2⟩

theorem Memory.below_put (m : Memory) (a n : Nat) (v : Byte) (ha : a < n) (hm : m.below n = true) :
    (m.put a v).below n = true := by
  unfold Memory.put
  split
  · exact all_cellsDrop _ _ _ hm
  · exact all_cellsPut _ _ _ _ (by simpa using ha) hm

theorem Memory.wf_putAll (bytes : List Byte) (m : Memory) (a : Nat) (hm : m.wf = true) :
    (m.putAll a bytes).wf = true := by
  induction bytes generalizing m a with
  | nil => exact hm
  | cons v rest ih => exact ih _ _ (Memory.wf_put _ _ _ hm)

theorem Memory.below_putAll (bytes : List Byte) (m : Memory) (a n : Nat) (ha : a + bytes.length ≤ n)
    (hm : m.below n = true) : (m.putAll a bytes).below n = true := by
  induction bytes generalizing m a with
  | nil => exact hm
  | cons v rest ih =>
    simp only [List.length_cons] at ha
    exact ih _ _ (by omega) (Memory.below_put _ _ _ _ (by omega) hm)

theorem Memory.get_putAll (bytes : List Byte) (m : Memory) (a b : Nat) :
    (m.putAll a bytes).get b = if a ≤ b ∧ b < a + bytes.length then bytes.getD (b - a) 0 else m.get b := by
  induction bytes generalizing m a with
  | nil => simp [Memory.putAll]
  | cons v rest ih =>
    simp only [Memory.putAll, ih, Memory.get_put, List.length_cons]
    by_cases h : b = a
    · subst h; simp
    · by_cases h2 : a + 1 ≤ b ∧ b < a + 1 + rest.length
      · have : b - a = (b - (a + 1)) + 1 := by omega
        rw [if_pos h2, if_pos (by omega), this]; simp
      · rw [if_neg h2, if_neg h, if_neg (by omega)]

/-! ### Bytes and words of the state -/

theorem State.writeByte_readByte (s : State) (a b : Word) (v : Byte) :
    (s.writeByte a v).readByte b = if b = a ∧ s.writable a then v else s.readByte b := by
  unfold State.writeByte
  by_cases hw : s.writable a = true
  · have hlt : a.toNat < s.memSize := by simp [State.writable] at hw; exact hw.1
    simp only [hw, if_true, State.readByte, Memory.get_put, and_true]
    by_cases hab : b = a
    · subst hab; simp [hlt]
    · have : b.toNat ≠ a.toNat := fun h => hab (BitVec.eq_of_toNat_eq h)
      simp [hab, this]
  · simp [hw]

/-- The byte at the written address: the value where the write takes effect (R73). -/
@[simp] theorem State.writeByte_readByte_same (s : State) (a : Word) (v : Byte) :
    (s.writeByte a v).readByte a = s.stored a v := by
  rw [State.writeByte_readByte]; simp [State.stored]

theorem State.writeByte_readByte_other (s : State) (a b : Word) (v : Byte) (h : b ≠ a) :
    (s.writeByte a v).readByte b = s.readByte b := by
  rw [State.writeByte_readByte]; simp [h]

theorem Word.succ_ne (a : Word) : a + 1 ≠ a := by bv_omega

theorem hiByte_join (h l : Byte) : hiByte (joinBytes h l) = h := by
  apply BitVec.eq_of_getLsbD_eq
  intro i hi
  simp only [hiByte, joinBytes, BitVec.getLsbD_extractLsb', hi, decide_true, Bool.true_and]
  exact BitVec.getLsbD_append.trans (by simp)

theorem loByte_join (h l : Byte) : loByte (joinBytes h l) = l := by
  apply BitVec.eq_of_getLsbD_eq
  intro i hi
  simp only [loByte, joinBytes, BitVec.getLsbD_extractLsb', hi, decide_true, Bool.true_and]
  exact BitVec.getLsbD_append.trans (by simp [hi])

theorem join_hi_lo (v : Word) : joinBytes (hiByte v) (loByte v) = v := by
  unfold hiByte loByte joinBytes
  ext i hi
  simp only [BitVec.getElem_append, BitVec.getElem_extractLsb']
  split
  · simp [BitVec.getLsbD_eq_getElem, hi]
  · have : 8 + (i - 8) = i := by omega
    simp [this, BitVec.getLsbD_eq_getElem, hi]

/-! ### The slots -/

theorem State.ioWrite_outSlot (s : State) (p : Word) (v q : Byte) :
    (s.ioWrite p v).outSlot q = if q = loByte p then some v else s.outSlot q := by
  simp only [State.outSlot, State.ioWrite, cellsGet_put]
  by_cases h : q = loByte p
  · simp [h]
  · have : q.toNat ≠ (loByte p).toNat := fun h' => h (BitVec.eq_of_toNat_eq h')
    simp [h, this]

theorem slotsWf_put (m : Slots) (q : Byte) (v : Option Byte) (hm : slotsWf m = true) :
    slotsWf (slotPut m q v) = true := by
  simp only [slotsWf, Bool.and_eq_true] at hm ⊢
  cases v with
  | none => exact ⟨cellsSorted_drop _ _ hm.1, all_cellsDrop _ _ _ hm.2⟩
  | some b => exact ⟨cellsSorted_put _ _ _ hm.1, all_cellsPut _ _ _ _ (by simp; exact q.isLt) hm.2⟩

end Sys2Proof.Machine
end

