-- ==== Sys2Proof/Laws/Frame.lean ====
section
/-! SUPPORT. What each shared operation may change, as frames (`State.SameBut`), and how frames combine. -/

namespace Sys2Proof.Machine

theorem Loc.sameAt_refl (l : Loc) (s : State) : l.sameAt s s := by cases l <;> rfl

theorem Loc.sameAt_trans (l : Loc) (s t u : State) (h : l.sameAt s t) (h' : l.sameAt t u) : l.sameAt s u := by
  cases l <;> exact Eq.trans h' h

theorem State.SameBut.refl (ls : List Loc) (s : State) : s.SameBut ls s := fun l _ => l.sameAt_refl s

theorem State.SameBut.mono {ls ls' : List Loc} {s t : State} (h : s.SameBut ls t) (hs : ls ⊆ ls') :
    s.SameBut ls' t := fun l hl => h l fun hm => hl (hs hm)

theorem State.SameBut.trans {ls ls' : List Loc} {s t u : State} (h : s.SameBut ls t) (h' : t.SameBut ls' u) :
    s.SameBut (ls ++ ls') u := fun l hl => by
  simp only [List.mem_append, not_or] at hl
  exact l.sameAt_trans s t u (h l hl.1) (h' l hl.2)

/-- One frame after another inside a third. -/
theorem State.SameBut.andThen {ls₁ ls₂ ls : List Loc} {s t u : State} (h₁ : s.SameBut ls₁ t) (h₂ : t.SameBut ls₂ u)
    (hs₁ : ls₁ ⊆ ls) (hs₂ : ls₂ ⊆ ls) : s.SameBut ls u :=
  (h₁.trans h₂).mono (List.append_subset.mpr ⟨hs₁, hs₂⟩)

variable (s : State)

theorem State.setReg_frame (r : Reg8) (v : Byte) : s.SameBut [.reg r] (s.setReg r v) := by
  intro l hl; cases l <;> simp_all [Loc.sameAt]

theorem State.setFlags_frame (fl : Flags) : s.SameBut Loc.flags (s.setFlags fl) := by
  intro l hl
  cases l with
  | flag name => cases name <;> simp [Loc.flags] at hl
  | _ => simp [Loc.sameAt]

theorem State.setF_frame (v : Byte) : s.SameBut Loc.flags (s.setF v) := by
  intro l hl
  cases l with
  | flag name => cases name <;> simp [Loc.flags] at hl
  | _ => simp [Loc.sameAt]

theorem State.setIx_frame (v : Word) : s.SameBut [.ix] (s.setIx v) := by
  intro l hl; cases l <;> simp_all [Loc.sameAt]

theorem State.setIy_frame (v : Word) : s.SameBut [.iy] (s.setIy v) := by
  intro l hl; cases l <;> simp_all [Loc.sameAt]

theorem State.setIndex_frame (k : Index) (v : Word) : s.SameBut [Loc.index k] (s.setIndex k v) := by
  cases k
  · exact s.setIx_frame v
  · exact s.setIy_frame v

theorem State.setHalf_frame (k : Index) (g : Half) (v : Byte) : s.SameBut [Loc.index k] (s.setHalf k g v) := by
  cases g <;> exact s.setIndex_frame k _

theorem State.setSp_frame (v : Word) : s.SameBut [.sp] (s.setSp v) := by
  intro l hl; cases l <;> simp_all [Loc.sameAt]

theorem State.setPc_frame (v : Word) : s.SameBut [.pc] (s.setPc v) := by
  intro l hl; cases l <;> simp_all [Loc.sameAt]

theorem State.setI_frame (v : Byte) : s.SameBut [.regI] (s.setI v) := by
  intro l hl; cases l <;> simp_all [Loc.sameAt]

theorem State.setR_frame (v : Byte) : s.SameBut [.regR] (s.setR v) := by
  intro l hl; cases l <;> simp_all [Loc.sameAt]

theorem State.bumpR_frame (n : Nat) : s.SameBut [.regR] (s.bumpR n) := by
  intro l hl; cases l <;> simp_all [Loc.sameAt]

theorem State.setIff_frame (a b : Bool) : s.SameBut [.iff1, .iff2] (s.setIff a b) := by
  intro l hl; cases l <;> simp_all [Loc.sameAt]

theorem State.setIm_frame (m : IntMode) : s.SameBut [.im] (s.setIm m) := by
  intro l hl; cases l <;> simp_all [Loc.sameAt]

theorem State.setHalted_frame (b : Bool) : s.SameBut [.halted] (s.setHalted b) := by
  intro l hl; cases l <;> simp_all [Loc.sameAt]

theorem State.writeByte_frame (a : Word) (v : Byte) : s.SameBut [.mem a] (s.writeByte a v) := by
  intro l hl
  cases l with
  | mem b => exact s.writeByte_readByte_other a b v (by simpa using hl)
  | _ => simp [Loc.sameAt]

theorem State.writeWord_frame (a v : Word) : s.SameBut [.mem a, .mem (a + 1)] (s.writeWord a v) :=
  (s.writeByte_frame a _).trans ((s.writeByte a _).writeByte_frame (a + 1) _)

theorem State.pushByte_frame (v : Byte) : s.SameBut [.sp, .mem (s.sp - 1)] (s.pushByte v) :=
  (s.setSp_frame _).trans ((s.setSp _).writeByte_frame _ _)

@[simp] theorem State.pushByte_sp (v : Byte) : (s.pushByte v).sp = s.sp - 1 := by simp [State.pushByte]

theorem State.push16_frame (v : Word) : s.SameBut [.sp, .mem (s.sp - 1), .mem (s.sp - 2)] (s.push16 v) := by
  refine (s.pushByte_frame _).andThen ((s.pushByte _).pushByte_frame _) (by simp) ?_
  have : s.sp - 1 - 1 = s.sp - 2 := by bv_omega
  rw [State.pushByte_sp, this]
  simp

theorem State.call_frame (target : Word) :
    s.SameBut [.sp, .mem (s.sp - 1), .mem (s.sp - 2), .pc] (s.call target) :=
  (s.push16_frame _).trans ((s.push16 _).setPc_frame _)

theorem State.ret_frame : s.SameBut [.sp, .pc] s.ret := (s.setSp_frame _).trans ((s.dropTop).setPc_frame _)

theorem State.ioRead_frame (p : Word) : s.SameBut [.draws] (s.ioRead p) := by
  intro l hl; cases l <;> simp_all [Loc.sameAt]

theorem State.ioWrite_frame (p : Word) (v : Byte) : s.SameBut [.outSlot (loByte p)] (s.ioWrite p v) := by
  intro l hl
  cases l with
  | outSlot q => simp only [List.mem_singleton, Loc.outSlot.injEq] at hl; simp [Loc.sameAt, State.ioWrite_outSlot, hl]
  | _ => simp [Loc.sameAt]

theorem State.setBc_frame (v : Word) : s.SameBut [.reg .b, .reg .c] (s.setBc v) :=
  (s.setReg_frame .b _).trans ((s.setReg .b _).setReg_frame .c _)

theorem State.setDe_frame (v : Word) : s.SameBut [.reg .d, .reg .e] (s.setDe v) :=
  (s.setReg_frame .d _).trans ((s.setReg .d _).setReg_frame .e _)

theorem State.setHl_frame (v : Word) : s.SameBut [.reg .h, .reg .l] (s.setHl v) :=
  (s.setReg_frame .h _).trans ((s.setReg .h _).setReg_frame .l _)

theorem State.setPair_frame (p : Pair) (v : Word) : s.SameBut (Loc.pair p) (s.setPair p v) := by
  cases p
  · exact s.setBc_frame v
  · exact s.setDe_frame v
  · exact s.setHl_frame v
  · exact s.setSp_frame v

theorem State.setStackPair_frame (p : StackPair) (v : Word) : s.SameBut (Loc.stackPair p) (s.setStackPair p v) := by
  cases p
  · exact s.setBc_frame v
  · exact s.setDe_frame v
  · exact s.setHl_frame v
  · exact (s.setReg_frame .a _).trans ((s.setReg .a _).setF_frame _)

theorem State.putReg_frame (r : Reg8) (res : Byte × Flags) : s.SameBut (.reg r :: Loc.flags) (s.putReg r res) :=
  (s.setFlags_frame _).andThen ((s.setFlags _).setReg_frame r _) (by simp) (by simp)

theorem State.putMem_frame (a : Word) (res : Byte × Flags) : s.SameBut (.mem a :: Loc.flags) (s.putMem a res) :=
  (s.setFlags_frame _).andThen ((s.setFlags _).writeByte_frame a _) (by simp) (by simp)

theorem State.putHalf_frame (k : Index) (g : Half) (res : Byte × Flags) :
    s.SameBut (Loc.index k :: Loc.flags) (s.putHalf k g res) :=
  (s.setFlags_frame _).andThen ((s.setFlags _).setHalf_frame k g _) (by simp) (by simp)

theorem State.putHl_frame (res : Word × Flags) : s.SameBut (.reg .h :: .reg .l :: Loc.flags) (s.putHl res) :=
  (s.setFlags_frame _).andThen ((s.setFlags _).setHl_frame _) (by simp) (by simp)

theorem State.putIndex_frame (k : Index) (res : Word × Flags) :
    s.SameBut (Loc.index k :: Loc.flags) (s.putIndex k res) :=
  (s.setFlags_frame _).andThen ((s.setFlags _).setIndex_frame k _) (by simp) (by simp)

theorem State.copyTo_frame (z : Option Reg8) (v : Byte) :
    s.SameBut (Loc.copy z) (s.copyTo z v) := by
  cases z
  · exact State.SameBut.refl _ s
  · exact s.setReg_frame _ v

theorem State.repeatIf_frame (again : Bool) : s.SameBut [.pc] (s.repeatIf again) := by
  cases again
  · exact State.SameBut.refl _ s
  · exact s.setPc_frame _

theorem State.accept_frame (a b : Bool) : s.SameBut [.iff1, .iff2, .halted, .regR] (s.accept a b) :=
  ((s.setIff_frame a b).trans ((s.setIff a b).setHalted_frame false)).trans
    (((s.setIff a b).setHalted false).bumpR_frame 1)

end Sys2Proof.Machine
end

