-- ==== Sys2Proof/Laws/Values.lean ====
section
/-! SUPPORT. What each shared operation over pairs, halves, words and the stack leaves to be read. -/

namespace Sys2Proof.Machine

variable (s : State)

@[simp] theorem State.setBc_bc (v : Word) : (s.setBc v).bc = v := by simp [State.setBc, State.bc, join_hi_lo]
@[simp] theorem State.setDe_de (v : Word) : (s.setDe v).de = v := by simp [State.setDe, State.de, join_hi_lo]
@[simp] theorem State.setHl_hl (v : Word) : (s.setHl v).hl = v := by simp [State.setHl, State.hl, join_hi_lo]
@[simp] theorem State.setAf_af (v : Word) : (s.setAf v).af = v := by simp [State.setAf, State.af, join_hi_lo]
@[simp] theorem State.setHl_bc (v : Word) : (s.setHl v).bc = s.bc := by simp [State.setHl, State.bc]
@[simp] theorem State.setHl_de (v : Word) : (s.setHl v).de = s.de := by simp [State.setHl, State.de]
@[simp] theorem State.setDe_bc (v : Word) : (s.setDe v).bc = s.bc := by simp [State.setDe, State.bc]
@[simp] theorem State.setDe_hl (v : Word) : (s.setDe v).hl = s.hl := by simp [State.setDe, State.hl]
@[simp] theorem State.setBc_de (v : Word) : (s.setBc v).de = s.de := by simp [State.setBc, State.de]
@[simp] theorem State.setBc_hl (v : Word) : (s.setBc v).hl = s.hl := by simp [State.setBc, State.hl]

@[simp] theorem State.setPair_pair (p : Pair) (v : Word) : (s.setPair p v).pair p = v := by
  cases p <;> simp [State.setPair, State.pair]

@[simp] theorem State.setStackPair_stackPair (p : StackPair) (v : Word) : (s.setStackPair p v).stackPair p = v := by
  cases p <;> simp [State.setStackPair, State.stackPair]

@[simp] theorem State.setIndex_index (k : Index) (v : Word) : (s.setIndex k v).index k = v := by cases k <;> rfl

@[simp] theorem State.setHalf_half (k : Index) (g : Half) (v : Byte) : (s.setHalf k g v).half k g = v := by
  cases g <;> simp [State.setHalf, State.half, hiByte_join, loByte_join]

theorem State.setHalf_half_other (k : Index) (g g' : Half) (v : Byte) (h : g' ≠ g) :
    (s.setHalf k g v).half k g' = s.half k g' := by
  cases g <;> cases g' <;> simp_all [State.setHalf, State.half, hiByte_join, loByte_join]

@[simp] theorem State.writeWord_writable (a v b : Word) : (s.writeWord a v).writable b = s.writable b := by
  simp [State.writeWord]

/-- The two bytes of a word write, each under the rule of a byte write (20_memory.md R76). -/
theorem State.writeWord_readByte (a v b : Word) :
    (s.writeWord a v).readByte b =
      if b = a then s.stored a (loByte v) else if b = a + 1 then s.stored (a + 1) (hiByte v) else s.readByte b := by
  have hne := Word.succ_ne a
  simp only [State.writeWord, State.writeByte_readByte, State.writeByte_writable, State.stored]
  generalize a + 1 = c at hne ⊢
  by_cases h1 : b = a
  · subst h1; simp [Ne.symm hne]
  · by_cases h2 : b = c
    · subst h2; simp [hne]
    · simp [h1, h2]

/-- A word write followed by a word read, where both bytes are writable (20_memory.md R76). -/
theorem State.writeWord_readWord (a v : Word) (h : s.writable a = true) (h' : s.writable (a + 1) = true) :
    (s.writeWord a v).readWord a = v := by
  simp only [State.readWord, State.writeWord_readByte, State.stored, if_true, h, h', if_neg (Word.succ_ne a)]
  exact join_hi_lo v

@[simp] theorem State.push16_sp (v : Word) : (s.push16 v).sp = s.sp - 2 := by
  simp only [State.push16, State.pushByte_sp]; bv_omega

@[simp] theorem State.pushByte_writable (v : Byte) (a : Word) : (s.pushByte v).writable a = s.writable a := by
  simp [State.pushByte]

theorem State.pushByte_readByte (v : Byte) (a : Word) :
    (s.pushByte v).readByte a = if a = s.sp - 1 then s.stored a v else s.readByte a := by
  simp only [State.pushByte, State.writeByte_readByte, State.setSp_writable, State.setSp_readByte, State.stored]
  generalize s.sp - 1 = c
  by_cases h : a = c
  · subst h; simp
  · simp [h]

/-- The two bytes of a push (20_memory.md R88). -/
theorem State.push16_readByte (v : Word) (a : Word) :
    (s.push16 v).readByte a =
      if a = s.sp - 2 then s.stored a (loByte v)
      else if a = s.sp - 1 then s.stored a (hiByte v) else s.readByte a := by
  have h12 : s.sp - 1 - 1 = s.sp - 2 := by bv_omega
  have hne : s.sp - 2 ≠ s.sp - 1 := by bv_omega
  rw [State.push16, State.pushByte_readByte, State.pushByte_sp, h12]
  by_cases h : a = s.sp - 2
  · subst h
    simp only [if_true, State.stored, State.pushByte_writable, State.pushByte_readByte, if_neg hne]
  · simp only [if_neg h, State.pushByte_readByte]

/-- Push16 then Pop16 gives the word back, where both bytes are writable (20_memory.md R88, R89). -/
theorem State.push16_top (v : Word) (h : s.writable (s.sp - 1) = true) (h' : s.writable (s.sp - 2) = true) :
    (s.push16 v).top = v := by
  have h1 : s.sp - 2 + 1 = s.sp - 1 := by bv_omega
  have hne : s.sp - 1 ≠ s.sp - 2 := by bv_omega
  simp only [State.top, State.push16_sp, State.push16_readByte, h1, if_true, if_neg hne, State.stored, h, h']
  exact join_hi_lo v

theorem State.push16_dropTop_sp (v : Word) : (s.push16 v).dropTop.sp = s.sp := by
  simp only [State.dropTop, State.setSp_sp, State.push16_sp]; bv_omega

/-- A push as one fact (20_memory.md R88). -/
theorem State.push16_pushed (v : Word) : s.Pushed v (s.push16 v) := by
  have hne : s.sp - 1 ≠ s.sp - 2 := by bv_omega
  refine ⟨s.push16_sp v, ?_, ?_⟩
  · rw [State.push16_readByte, if_neg hne, if_pos rfl]
  · rw [State.push16_readByte, if_pos rfl]

end Sys2Proof.Machine
end

