-- ==== Sys2Proof/Laws/Inv.lean ====
section
/-! SUPPORT. Each shared operation keeps the state's data canonical (`State.Inv`). -/

namespace Sys2Proof.Machine

variable (s : State)

@[simp] theorem State.setReg_inv (r : Reg8) (v : Byte) : (s.setReg r v).Inv ↔ s.Inv := by simp [State.Inv]
@[simp] theorem State.setF_inv (v : Byte) : (s.setF v).Inv ↔ s.Inv := by simp [State.Inv]
@[simp] theorem State.setFlags_inv (fl : Flags) : (s.setFlags fl).Inv ↔ s.Inv := by simp [State.Inv]
@[simp] theorem State.setIx_inv (v : Word) : (s.setIx v).Inv ↔ s.Inv := by simp [State.Inv]
@[simp] theorem State.setIy_inv (v : Word) : (s.setIy v).Inv ↔ s.Inv := by simp [State.Inv]
@[simp] theorem State.setSp_inv (v : Word) : (s.setSp v).Inv ↔ s.Inv := by simp [State.Inv]
@[simp] theorem State.setPc_inv (v : Word) : (s.setPc v).Inv ↔ s.Inv := by simp [State.Inv]
@[simp] theorem State.setI_inv (v : Byte) : (s.setI v).Inv ↔ s.Inv := by simp [State.Inv]
@[simp] theorem State.setR_inv (v : Byte) : (s.setR v).Inv ↔ s.Inv := by simp [State.Inv]
@[simp] theorem State.setIff_inv (a b : Bool) : (s.setIff a b).Inv ↔ s.Inv := by simp [State.Inv]
@[simp] theorem State.setIm_inv (m : IntMode) : (s.setIm m).Inv ↔ s.Inv := by simp [State.Inv]
@[simp] theorem State.setHalted_inv (b : Bool) : (s.setHalted b).Inv ↔ s.Inv := by simp [State.Inv]
@[simp] theorem State.swapAf_inv : (s.swapAf).Inv ↔ s.Inv := by simp [State.Inv]
@[simp] theorem State.swapGp_inv : (s.swapGp).Inv ↔ s.Inv := by simp [State.Inv]
@[simp] theorem State.bumpR_inv (n : Nat) : (s.bumpR n).Inv ↔ s.Inv := by simp [State.Inv]
@[simp] theorem State.ioRead_inv (p : Word) : (s.ioRead p).Inv ↔ s.Inv := by simp [State.Inv]

theorem State.writeByte_inv (a : Word) (v : Byte) (h : s.Inv) : (s.writeByte a v).Inv := by
  unfold State.writeByte
  split
  · rename_i hw
    have ha : a.toNat < s.memSize := by simp [State.writable] at hw; exact hw.1
    exact ⟨Memory.wf_put _ _ _ h.1, Memory.below_put _ _ _ _ ha h.2.1, h.2.2⟩
  · exact h

theorem State.writeWord_inv (a v : Word) (h : s.Inv) : (s.writeWord a v).Inv :=
  State.writeByte_inv _ _ _ (State.writeByte_inv _ _ _ h)

theorem State.push16_inv (v : Word) (h : s.Inv) : (s.push16 v).Inv := by
  unfold State.push16 State.pushByte
  exact State.writeByte_inv _ _ _ (by simpa using State.writeByte_inv _ _ _ (by simpa using h))

theorem State.ioWrite_inv (p : Word) (v : Byte) (h : s.Inv) : (s.ioWrite p v).Inv :=
  ⟨h.1, h.2.1, slotsWf_put _ (loByte p) (some v) h.2.2.1, h.2.2.2⟩

end Sys2Proof.Machine
end

