-- ==== Sys2Proof/Laws/PerInstr.lean ====
section
/-! SUPPORT. A statement about every instruction, one lemma per constructor: its encoding has one to four bytes
(30_encoding.md R100). -/

namespace Sys2Proof.Laws.EncLen

/-- The encoding of `i` has one, two, three or four bytes (30_encoding.md R100). -/
def Statement (i : Instr) : Prop := 1 ≤ (encode i).length ∧ (encode i).length ≤ 4

theorem bounds {i : Instr} (h : Nat.ble 1 (encode i).length = true) (h' : Nat.ble (encode i).length 4 = true) :
    Statement i := ⟨Nat.le_of_ble_eq_true h, Nat.le_of_ble_eq_true h'⟩

theorem ldRR (dst : Reg8) (src : Reg8) : Statement (.ldRR dst src) := bounds rfl rfl
theorem ldRN (dst : Reg8) (n : Byte) : Statement (.ldRN dst n) := bounds rfl rfl
theorem ldRHl (dst : Reg8) : Statement (.ldRHl dst) := bounds rfl rfl
theorem ldRIx (dst : Reg8) (d : Byte) : Statement (.ldRIx dst d) := bounds rfl rfl
theorem ldRIy (dst : Reg8) (d : Byte) : Statement (.ldRIy dst d) := bounds rfl rfl
theorem ldHlR (src : Reg8) : Statement (.ldHlR src) := bounds rfl rfl
theorem ldIxR (d : Byte) (src : Reg8) : Statement (.ldIxR d src) := bounds rfl rfl
theorem ldIyR (d : Byte) (src : Reg8) : Statement (.ldIyR d src) := bounds rfl rfl
theorem ldHlN (n : Byte) : Statement (.ldHlN n) := bounds rfl rfl
theorem ldIxN (d : Byte) (n : Byte) : Statement (.ldIxN d n) := bounds rfl rfl
theorem ldIyN (d : Byte) (n : Byte) : Statement (.ldIyN d n) := bounds rfl rfl
theorem ldABc : Statement (.ldABc) := bounds rfl rfl
theorem ldADe : Statement (.ldADe) := bounds rfl rfl
theorem ldANn (nn : Word) : Statement (.ldANn nn) := bounds rfl rfl
theorem ldBcA : Statement (.ldBcA) := bounds rfl rfl
theorem ldDeA : Statement (.ldDeA) := bounds rfl rfl
theorem ldNnA (nn : Word) : Statement (.ldNnA nn) := bounds rfl rfl
theorem ldAI : Statement (.ldAI) := bounds rfl rfl
theorem ldAR : Statement (.ldAR) := bounds rfl rfl
theorem ldIA : Statement (.ldIA) := bounds rfl rfl
theorem ldRA : Statement (.ldRA) := bounds rfl rfl
theorem ldRIxHalf (dst : Reg8) (g : Half) : Statement (.ldRIxHalf dst g) := bounds rfl rfl
theorem ldIxHalfR (g : Half) (src : Reg8) : Statement (.ldIxHalfR g src) := bounds rfl rfl
theorem ldIxHalfHalf (g : Half) (h : Half) : Statement (.ldIxHalfHalf g h) := bounds rfl rfl
theorem ldIxHalfN (g : Half) (n : Byte) : Statement (.ldIxHalfN g n) := bounds rfl rfl
theorem ldRIyHalf (dst : Reg8) (g : Half) : Statement (.ldRIyHalf dst g) := bounds rfl rfl
theorem ldIyHalfR (g : Half) (src : Reg8) : Statement (.ldIyHalfR g src) := bounds rfl rfl
theorem ldIyHalfHalf (g : Half) (h : Half) : Statement (.ldIyHalfHalf g h) := bounds rfl rfl
theorem ldIyHalfN (g : Half) (n : Byte) : Statement (.ldIyHalfN g n) := bounds rfl rfl
theorem ldDdNn (dd : Pair) (nn : Word) : Statement (.ldDdNn dd nn) := bounds rfl rfl
theorem ldIxNn (nn : Word) : Statement (.ldIxNn nn) := bounds rfl rfl
theorem ldIyNn (nn : Word) : Statement (.ldIyNn nn) := bounds rfl rfl
theorem ldHlMem (nn : Word) : Statement (.ldHlMem nn) := bounds rfl rfl
theorem ldDdMem (dd : Pair) (nn : Word) : Statement (.ldDdMem dd nn) := bounds rfl rfl
theorem ldIxMem (nn : Word) : Statement (.ldIxMem nn) := bounds rfl rfl
theorem ldIyMem (nn : Word) : Statement (.ldIyMem nn) := bounds rfl rfl
theorem ldMemHl (nn : Word) : Statement (.ldMemHl nn) := bounds rfl rfl
theorem ldMemDd (nn : Word) (dd : Pair) : Statement (.ldMemDd nn dd) := bounds rfl rfl
theorem ldMemIx (nn : Word) : Statement (.ldMemIx nn) := bounds rfl rfl
theorem ldMemIy (nn : Word) : Statement (.ldMemIy nn) := bounds rfl rfl
theorem ldSpHl : Statement (.ldSpHl) := bounds rfl rfl
theorem ldSpIx : Statement (.ldSpIx) := bounds rfl rfl
theorem ldSpIy : Statement (.ldSpIy) := bounds rfl rfl
theorem pushQq (qq : StackPair) : Statement (.pushQq qq) := bounds rfl rfl
theorem pushIx : Statement (.pushIx) := bounds rfl rfl
theorem pushIy : Statement (.pushIy) := bounds rfl rfl
theorem popQq (qq : StackPair) : Statement (.popQq qq) := bounds rfl rfl
theorem popIx : Statement (.popIx) := bounds rfl rfl
theorem popIy : Statement (.popIy) := bounds rfl rfl
theorem exDeHl : Statement (.exDeHl) := bounds rfl rfl
theorem exAfAf : Statement (.exAfAf) := bounds rfl rfl
theorem exx : Statement (.exx) := bounds rfl rfl
theorem exSpHl : Statement (.exSpHl) := bounds rfl rfl
theorem exSpIx : Statement (.exSpIx) := bounds rfl rfl
theorem exSpIy : Statement (.exSpIy) := bounds rfl rfl
theorem ldi : Statement (.ldi) := bounds rfl rfl
theorem ldir : Statement (.ldir) := bounds rfl rfl
theorem ldd : Statement (.ldd) := bounds rfl rfl
theorem lddr : Statement (.lddr) := bounds rfl rfl
theorem cpi : Statement (.cpi) := bounds rfl rfl
theorem cpir : Statement (.cpir) := bounds rfl rfl
theorem cpd : Statement (.cpd) := bounds rfl rfl
theorem cpdr : Statement (.cpdr) := bounds rfl rfl
theorem addR (src : Reg8) : Statement (.addR src) := bounds rfl rfl
theorem addN (n : Byte) : Statement (.addN n) := bounds rfl rfl
theorem addMemHl : Statement (.addMemHl) := bounds rfl rfl
theorem addMemIx (d : Byte) : Statement (.addMemIx d) := bounds rfl rfl
theorem addMemIy (d : Byte) : Statement (.addMemIy d) := bounds rfl rfl
theorem addIxHalf (g : Half) : Statement (.addIxHalf g) := bounds rfl rfl
theorem addIyHalf (g : Half) : Statement (.addIyHalf g) := bounds rfl rfl
theorem adcR (src : Reg8) : Statement (.adcR src) := bounds rfl rfl
theorem adcN (n : Byte) : Statement (.adcN n) := bounds rfl rfl
theorem adcMemHl : Statement (.adcMemHl) := bounds rfl rfl
theorem adcMemIx (d : Byte) : Statement (.adcMemIx d) := bounds rfl rfl
theorem adcMemIy (d : Byte) : Statement (.adcMemIy d) := bounds rfl rfl
theorem adcIxHalf (g : Half) : Statement (.adcIxHalf g) := bounds rfl rfl
theorem adcIyHalf (g : Half) : Statement (.adcIyHalf g) := bounds rfl rfl
theorem subR (src : Reg8) : Statement (.subR src) := bounds rfl rfl
theorem subN (n : Byte) : Statement (.subN n) := bounds rfl rfl
theorem subMemHl : Statement (.subMemHl) := bounds rfl rfl
theorem subMemIx (d : Byte) : Statement (.subMemIx d) := bounds rfl rfl
theorem subMemIy (d : Byte) : Statement (.subMemIy d) := bounds rfl rfl
theorem subIxHalf (g : Half) : Statement (.subIxHalf g) := bounds rfl rfl
theorem subIyHalf (g : Half) : Statement (.subIyHalf g) := bounds rfl rfl
theorem sbcR (src : Reg8) : Statement (.sbcR src) := bounds rfl rfl
theorem sbcN (n : Byte) : Statement (.sbcN n) := bounds rfl rfl
theorem sbcMemHl : Statement (.sbcMemHl) := bounds rfl rfl
theorem sbcMemIx (d : Byte) : Statement (.sbcMemIx d) := bounds rfl rfl
theorem sbcMemIy (d : Byte) : Statement (.sbcMemIy d) := bounds rfl rfl
theorem sbcIxHalf (g : Half) : Statement (.sbcIxHalf g) := bounds rfl rfl
theorem sbcIyHalf (g : Half) : Statement (.sbcIyHalf g) := bounds rfl rfl
theorem andR (src : Reg8) : Statement (.andR src) := bounds rfl rfl
theorem andN (n : Byte) : Statement (.andN n) := bounds rfl rfl
theorem andMemHl : Statement (.andMemHl) := bounds rfl rfl
theorem andMemIx (d : Byte) : Statement (.andMemIx d) := bounds rfl rfl
theorem andMemIy (d : Byte) : Statement (.andMemIy d) := bounds rfl rfl
theorem andIxHalf (g : Half) : Statement (.andIxHalf g) := bounds rfl rfl
theorem andIyHalf (g : Half) : Statement (.andIyHalf g) := bounds rfl rfl
theorem orR (src : Reg8) : Statement (.orR src) := bounds rfl rfl
theorem orN (n : Byte) : Statement (.orN n) := bounds rfl rfl
theorem orMemHl : Statement (.orMemHl) := bounds rfl rfl
theorem orMemIx (d : Byte) : Statement (.orMemIx d) := bounds rfl rfl
theorem orMemIy (d : Byte) : Statement (.orMemIy d) := bounds rfl rfl
theorem orIxHalf (g : Half) : Statement (.orIxHalf g) := bounds rfl rfl
theorem orIyHalf (g : Half) : Statement (.orIyHalf g) := bounds rfl rfl
theorem xorR (src : Reg8) : Statement (.xorR src) := bounds rfl rfl
theorem xorN (n : Byte) : Statement (.xorN n) := bounds rfl rfl
theorem xorMemHl : Statement (.xorMemHl) := bounds rfl rfl
theorem xorMemIx (d : Byte) : Statement (.xorMemIx d) := bounds rfl rfl
theorem xorMemIy (d : Byte) : Statement (.xorMemIy d) := bounds rfl rfl
theorem xorIxHalf (g : Half) : Statement (.xorIxHalf g) := bounds rfl rfl
theorem xorIyHalf (g : Half) : Statement (.xorIyHalf g) := bounds rfl rfl
theorem cpR (src : Reg8) : Statement (.cpR src) := bounds rfl rfl
theorem cpN (n : Byte) : Statement (.cpN n) := bounds rfl rfl
theorem cpMemHl : Statement (.cpMemHl) := bounds rfl rfl
theorem cpMemIx (d : Byte) : Statement (.cpMemIx d) := bounds rfl rfl
theorem cpMemIy (d : Byte) : Statement (.cpMemIy d) := bounds rfl rfl
theorem cpIxHalf (g : Half) : Statement (.cpIxHalf g) := bounds rfl rfl
theorem cpIyHalf (g : Half) : Statement (.cpIyHalf g) := bounds rfl rfl
theorem incR (dst : Reg8) : Statement (.incR dst) := bounds rfl rfl
theorem incMemHl : Statement (.incMemHl) := bounds rfl rfl
theorem incMemIx (d : Byte) : Statement (.incMemIx d) := bounds rfl rfl
theorem incMemIy (d : Byte) : Statement (.incMemIy d) := bounds rfl rfl
theorem incIxHalf (g : Half) : Statement (.incIxHalf g) := bounds rfl rfl
theorem incIyHalf (g : Half) : Statement (.incIyHalf g) := bounds rfl rfl
theorem decR (dst : Reg8) : Statement (.decR dst) := bounds rfl rfl
theorem decMemHl : Statement (.decMemHl) := bounds rfl rfl
theorem decMemIx (d : Byte) : Statement (.decMemIx d) := bounds rfl rfl
theorem decMemIy (d : Byte) : Statement (.decMemIy d) := bounds rfl rfl
theorem decIxHalf (g : Half) : Statement (.decIxHalf g) := bounds rfl rfl
theorem decIyHalf (g : Half) : Statement (.decIyHalf g) := bounds rfl rfl
theorem daa : Statement (.daa) := bounds rfl rfl
theorem cpl : Statement (.cpl) := bounds rfl rfl
theorem neg (m : BitVec 3) : Statement (.neg m) := bounds rfl rfl
theorem ccf : Statement (.ccf) := bounds rfl rfl
theorem scf : Statement (.scf) := bounds rfl rfl
theorem nop : Statement (.nop) := bounds rfl rfl
theorem halt : Statement (.halt) := bounds rfl rfl
theorem di : Statement (.di) := bounds rfl rfl
theorem ei : Statement (.ei) := bounds rfl rfl
theorem im0 (m : Bool) (k : Bool) : Statement (.im0 m k) := bounds rfl rfl
theorem im1 (m : Bool) : Statement (.im1 m) := bounds rfl rfl
theorem im2 (m : Bool) : Statement (.im2 m) := bounds rfl rfl
theorem noni (op : Byte) : Statement (.noni op) := bounds rfl rfl
theorem prefixIgnored (fd : Bool) : Statement (.prefixIgnored fd) := bounds rfl rfl
theorem addHlSs (ss : Pair) : Statement (.addHlSs ss) := bounds rfl rfl
theorem adcHlSs (ss : Pair) : Statement (.adcHlSs ss) := bounds rfl rfl
theorem sbcHlSs (ss : Pair) : Statement (.sbcHlSs ss) := bounds rfl rfl
theorem addIxPp (pp : IdxPair) : Statement (.addIxPp pp) := bounds rfl rfl
theorem addIyRr (rr : IdxPair) : Statement (.addIyRr rr) := bounds rfl rfl
theorem incSs (ss : Pair) : Statement (.incSs ss) := bounds rfl rfl
theorem incIx : Statement (.incIx) := bounds rfl rfl
theorem incIy : Statement (.incIy) := bounds rfl rfl
theorem decSs (ss : Pair) : Statement (.decSs ss) := bounds rfl rfl
theorem decIx : Statement (.decIx) := bounds rfl rfl
theorem decIy : Statement (.decIy) := bounds rfl rfl
theorem rlca : Statement (.rlca) := bounds rfl rfl
theorem rla : Statement (.rla) := bounds rfl rfl
theorem rrca : Statement (.rrca) := bounds rfl rfl
theorem rra : Statement (.rra) := bounds rfl rfl
theorem rlcR (dst : Reg8) : Statement (.rlcR dst) := bounds rfl rfl
theorem rlcMemHl : Statement (.rlcMemHl) := bounds rfl rfl
theorem rlcMemIx (d : Byte) (z : Option Reg8) : Statement (.rlcMemIx d z) := bounds rfl rfl
theorem rlcMemIy (d : Byte) (z : Option Reg8) : Statement (.rlcMemIy d z) := bounds rfl rfl
theorem rlR (dst : Reg8) : Statement (.rlR dst) := bounds rfl rfl
theorem rlMemHl : Statement (.rlMemHl) := bounds rfl rfl
theorem rlMemIx (d : Byte) (z : Option Reg8) : Statement (.rlMemIx d z) := bounds rfl rfl
theorem rlMemIy (d : Byte) (z : Option Reg8) : Statement (.rlMemIy d z) := bounds rfl rfl
theorem rrcR (dst : Reg8) : Statement (.rrcR dst) := bounds rfl rfl
theorem rrcMemHl : Statement (.rrcMemHl) := bounds rfl rfl
theorem rrcMemIx (d : Byte) (z : Option Reg8) : Statement (.rrcMemIx d z) := bounds rfl rfl
theorem rrcMemIy (d : Byte) (z : Option Reg8) : Statement (.rrcMemIy d z) := bounds rfl rfl
theorem rrR (dst : Reg8) : Statement (.rrR dst) := bounds rfl rfl
theorem rrMemHl : Statement (.rrMemHl) := bounds rfl rfl
theorem rrMemIx (d : Byte) (z : Option Reg8) : Statement (.rrMemIx d z) := bounds rfl rfl
theorem rrMemIy (d : Byte) (z : Option Reg8) : Statement (.rrMemIy d z) := bounds rfl rfl
theorem slaR (dst : Reg8) : Statement (.slaR dst) := bounds rfl rfl
theorem slaMemHl : Statement (.slaMemHl) := bounds rfl rfl
theorem slaMemIx (d : Byte) (z : Option Reg8) : Statement (.slaMemIx d z) := bounds rfl rfl
theorem slaMemIy (d : Byte) (z : Option Reg8) : Statement (.slaMemIy d z) := bounds rfl rfl
theorem sraR (dst : Reg8) : Statement (.sraR dst) := bounds rfl rfl
theorem sraMemHl : Statement (.sraMemHl) := bounds rfl rfl
theorem sraMemIx (d : Byte) (z : Option Reg8) : Statement (.sraMemIx d z) := bounds rfl rfl
theorem sraMemIy (d : Byte) (z : Option Reg8) : Statement (.sraMemIy d z) := bounds rfl rfl
theorem srlR (dst : Reg8) : Statement (.srlR dst) := bounds rfl rfl
theorem srlMemHl : Statement (.srlMemHl) := bounds rfl rfl
theorem srlMemIx (d : Byte) (z : Option Reg8) : Statement (.srlMemIx d z) := bounds rfl rfl
theorem srlMemIy (d : Byte) (z : Option Reg8) : Statement (.srlMemIy d z) := bounds rfl rfl
theorem sllR (dst : Reg8) : Statement (.sllR dst) := bounds rfl rfl
theorem sllMemHl : Statement (.sllMemHl) := bounds rfl rfl
theorem sllMemIx (d : Byte) (z : Option Reg8) : Statement (.sllMemIx d z) := bounds rfl rfl
theorem sllMemIy (d : Byte) (z : Option Reg8) : Statement (.sllMemIy d z) := bounds rfl rfl
theorem rld : Statement (.rld) := bounds rfl rfl
theorem rrd : Statement (.rrd) := bounds rfl rfl
theorem bitR (b : BitVec 3) (src : Reg8) : Statement (.bitR b src) := bounds rfl rfl
theorem bitMemHl (b : BitVec 3) : Statement (.bitMemHl b) := bounds rfl rfl
theorem bitMemIx (b : BitVec 3) (d : Byte) (j : BitVec 3) : Statement (.bitMemIx b d j) := bounds rfl rfl
theorem bitMemIy (b : BitVec 3) (d : Byte) (j : BitVec 3) : Statement (.bitMemIy b d j) := bounds rfl rfl
theorem setR (b : BitVec 3) (dst : Reg8) : Statement (.setR b dst) := bounds rfl rfl
theorem setMemHl (b : BitVec 3) : Statement (.setMemHl b) := bounds rfl rfl
theorem setMemIx (b : BitVec 3) (d : Byte) (z : Option Reg8) : Statement (.setMemIx b d z) := bounds rfl rfl
theorem setMemIy (b : BitVec 3) (d : Byte) (z : Option Reg8) : Statement (.setMemIy b d z) := bounds rfl rfl
theorem resR (b : BitVec 3) (dst : Reg8) : Statement (.resR b dst) := bounds rfl rfl
theorem resMemHl (b : BitVec 3) : Statement (.resMemHl b) := bounds rfl rfl
theorem resMemIx (b : BitVec 3) (d : Byte) (z : Option Reg8) : Statement (.resMemIx b d z) := bounds rfl rfl
theorem resMemIy (b : BitVec 3) (d : Byte) (z : Option Reg8) : Statement (.resMemIy b d z) := bounds rfl rfl
theorem jpNn (nn : Word) : Statement (.jpNn nn) := bounds rfl rfl
theorem jpCc (cc : Cond) (nn : Word) : Statement (.jpCc cc nn) := bounds rfl rfl
theorem jr (e : Byte) : Statement (.jr e) := bounds rfl rfl
theorem jrCc (cc : Cond) (e : Byte) : Statement (.jrCc cc e) := bounds rfl rfl
theorem jpHl : Statement (.jpHl) := bounds rfl rfl
theorem jpIx : Statement (.jpIx) := bounds rfl rfl
theorem jpIy : Statement (.jpIy) := bounds rfl rfl
theorem djnz (e : Byte) : Statement (.djnz e) := bounds rfl rfl
theorem callNn (nn : Word) : Statement (.callNn nn) := bounds rfl rfl
theorem callCc (cc : Cond) (nn : Word) : Statement (.callCc cc nn) := bounds rfl rfl
theorem ret : Statement (.ret) := bounds rfl rfl
theorem retCc (cc : Cond) : Statement (.retCc cc) := bounds rfl rfl
theorem reti : Statement (.reti) := bounds rfl rfl
theorem retn (m : BitVec 3) : Statement (.retn m) := bounds rfl rfl
theorem rst (t : BitVec 3) : Statement (.rst t) := bounds rfl rfl
theorem inAN (n : Byte) : Statement (.inAN n) := bounds rfl rfl
theorem inRC (dst : Reg8) : Statement (.inRC dst) := bounds rfl rfl
theorem inC : Statement (.inC) := bounds rfl rfl
theorem ini : Statement (.ini) := bounds rfl rfl
theorem inir : Statement (.inir) := bounds rfl rfl
theorem ind : Statement (.ind) := bounds rfl rfl
theorem indr : Statement (.indr) := bounds rfl rfl
theorem outNA (n : Byte) : Statement (.outNA n) := bounds rfl rfl
theorem outCR (src : Reg8) : Statement (.outCR src) := bounds rfl rfl
theorem outC0 : Statement (.outC0) := bounds rfl rfl
theorem outi : Statement (.outi) := bounds rfl rfl
theorem otir : Statement (.otir) := bounds rfl rfl
theorem outd : Statement (.outd) := bounds rfl rfl
theorem otdr : Statement (.otdr) := bounds rfl rfl

end Sys2Proof.Laws.EncLen
end

