-- ==== Sys2Proof/Laws/Primed.lean ====
section
/-! SUPPORT. Other primed registers (`State.withPrimed`) change nothing the shared operations read, and pass through every
shared operation unchanged. -/

namespace Sys2Proof.Machine

variable (s : State) (k : Bank)

/-! ### What is read -/

@[simp] theorem State.withPrimed_reg (r : Reg8) : (s.withPrimed k).reg r = s.reg r := by
  rcases s with ⟨_, _, sa, sg⟩; cases sa <;> cases sg <;> cases r <;> rfl
@[simp] theorem State.withPrimed_f : (s.withPrimed k).f = s.f := by
  rcases s with ⟨_, _, sa, sg⟩; cases sa <;> cases sg <;> rfl
@[simp] theorem State.withPrimed_altReg (r : Reg8) : (s.withPrimed k).altReg r = k.get r := by
  rcases s with ⟨_, _, sa, sg⟩; cases sa <;> cases sg <;> cases r <;> rfl
@[simp] theorem State.withPrimed_altF : (s.withPrimed k).altF = k.f := by
  rcases s with ⟨_, _, sa, sg⟩; cases sa <;> cases sg <;> rfl

@[simp] theorem State.withPrimed_selAf : (s.withPrimed k).selAf = s.selAf := by
  unfold State.withPrimed; split <;> split <;> rfl
@[simp] theorem State.withPrimed_selGp : (s.withPrimed k).selGp = s.selGp := by
  unfold State.withPrimed; split <;> split <;> rfl
@[simp] theorem State.withPrimed_ix : (s.withPrimed k).ix = s.ix := by
  unfold State.withPrimed; split <;> split <;> rfl
@[simp] theorem State.withPrimed_iy : (s.withPrimed k).iy = s.iy := by
  unfold State.withPrimed; split <;> split <;> rfl
@[simp] theorem State.withPrimed_sp : (s.withPrimed k).sp = s.sp := by
  unfold State.withPrimed; split <;> split <;> rfl
@[simp] theorem State.withPrimed_pc : (s.withPrimed k).pc = s.pc := by
  unfold State.withPrimed; split <;> split <;> rfl
@[simp] theorem State.withPrimed_regI : (s.withPrimed k).regI = s.regI := by
  unfold State.withPrimed; split <;> split <;> rfl
@[simp] theorem State.withPrimed_regR : (s.withPrimed k).regR = s.regR := by
  unfold State.withPrimed; split <;> split <;> rfl
@[simp] theorem State.withPrimed_iff1 : (s.withPrimed k).iff1 = s.iff1 := by
  unfold State.withPrimed; split <;> split <;> rfl
@[simp] theorem State.withPrimed_iff2 : (s.withPrimed k).iff2 = s.iff2 := by
  unfold State.withPrimed; split <;> split <;> rfl
@[simp] theorem State.withPrimed_im : (s.withPrimed k).im = s.im := by
  unfold State.withPrimed; split <;> split <;> rfl
@[simp] theorem State.withPrimed_halted : (s.withPrimed k).halted = s.halted := by
  unfold State.withPrimed; split <;> split <;> rfl
@[simp] theorem State.withPrimed_mem : (s.withPrimed k).mem = s.mem := by
  unfold State.withPrimed; split <;> split <;> rfl
@[simp] theorem State.withPrimed_rom : (s.withPrimed k).rom = s.rom := by
  unfold State.withPrimed; split <;> split <;> rfl
@[simp] theorem State.withPrimed_outSlots : (s.withPrimed k).outSlots = s.outSlots := by
  unfold State.withPrimed; split <;> split <;> rfl
@[simp] theorem State.withPrimed_inSlots : (s.withPrimed k).inSlots = s.inSlots := by
  unfold State.withPrimed; split <;> split <;> rfl
@[simp] theorem State.withPrimed_memSize : (s.withPrimed k).memSize = s.memSize := by
  unfold State.withPrimed; split <;> split <;> rfl
@[simp] theorem State.withPrimed_flagsProfile : (s.withPrimed k).flagsProfile = s.flagsProfile := by
  unfold State.withPrimed; split <;> split <;> rfl
@[simp] theorem State.withPrimed_draws : (s.withPrimed k).draws = s.draws := by
  unfold State.withPrimed; split <;> split <;> rfl
@[simp] theorem State.withPrimed_flags : (s.withPrimed k).flags = s.flags := by simp [State.flags]
@[simp] theorem State.withPrimed_bc : (s.withPrimed k).bc = s.bc := by simp [State.bc]
@[simp] theorem State.withPrimed_de : (s.withPrimed k).de = s.de := by simp [State.de]
@[simp] theorem State.withPrimed_hl : (s.withPrimed k).hl = s.hl := by simp [State.hl]
@[simp] theorem State.withPrimed_af : (s.withPrimed k).af = s.af := by simp [State.af]
@[simp] theorem State.withPrimed_readByte (a : Word) : (s.withPrimed k).readByte a = s.readByte a := by
  simp [State.readByte]
@[simp] theorem State.withPrimed_writable (a : Word) : (s.withPrimed k).writable a = s.writable a := by
  simp [State.writable, State.inRom]
@[simp] theorem State.withPrimed_readWord (a : Word) : (s.withPrimed k).readWord a = s.readWord a := by
  simp [State.readWord]
@[simp] theorem State.withPrimed_top : (s.withPrimed k).top = s.top := by simp [State.top]
@[simp] theorem State.withPrimed_inSlot (q : Byte) : (s.withPrimed k).inSlot q = s.inSlot q := by simp [State.inSlot]
@[simp] theorem State.withPrimed_ioValue (p : Word) : (s.withPrimed k).ioValue p = s.ioValue p := by
  simp [State.ioValue]
@[simp] theorem State.withPrimed_index (j : Index) : (s.withPrimed k).index j = s.index j := by
  cases j <;> simp [State.index]
@[simp] theorem State.withPrimed_half (j : Index) (g : Half) : (s.withPrimed k).half j g = s.half j g := by
  cases g <;> simp [State.half]
@[simp] theorem State.withPrimed_ea (j : Index) (d : Byte) : (s.withPrimed k).ea j d = s.ea j d := by simp [State.ea]
@[simp] theorem State.withPrimed_pair (p : Pair) : (s.withPrimed k).pair p = s.pair p := by
  cases p <;> simp [State.pair]
@[simp] theorem State.withPrimed_stackPair (p : StackPair) : (s.withPrimed k).stackPair p = s.stackPair p := by
  cases p <;> simp [State.stackPair]
@[simp] theorem State.withPrimed_idxPair (j : Index) (p : IdxPair) : (s.withPrimed k).idxPair j p = s.idxPair j p := by
  cases p <;> simp [State.idxPair]
@[simp] theorem State.withPrimed_cond (cc : Cond) : (s.withPrimed k).cond cc = s.cond cc := by simp [State.cond]
@[simp] theorem State.withPrimed_portN (n : Byte) : (s.withPrimed k).portN n = s.portN n := by simp [State.portN]
@[simp] theorem State.withPrimed_portC : (s.withPrimed k).portC = s.portC := by simp [State.portC]
@[simp] theorem State.withPrimed_codeByte (a : Word) : (s.withPrimed k).codeByte a = s.codeByte a := by
  simp [State.codeByte]
@[simp] theorem State.withPrimed_fetchInstr : (s.withPrimed k).fetchInstr = s.fetchInstr := by simp [State.fetchInstr]

/-! ### What is written -/

@[simp] theorem State.withPrimed_setReg (r : Reg8) (v : Byte) :
    (s.withPrimed k).setReg r v = (s.setReg r v).withPrimed k := by
  rcases s with ⟨_, _, sa, sg⟩; cases sa <;> cases sg <;> cases r <;> rfl
@[simp] theorem State.withPrimed_setF (v : Byte) : (s.withPrimed k).setF v = (s.setF v).withPrimed k := by
  rcases s with ⟨_, _, sa, sg⟩; cases sa <;> cases sg <;> rfl
@[simp] theorem State.withPrimed_setIx (v : Word) : (s.withPrimed k).setIx v = (s.setIx v).withPrimed k := by
  rcases s with ⟨_, _, sa, sg⟩; cases sa <;> cases sg <;> rfl
@[simp] theorem State.withPrimed_setIy (v : Word) : (s.withPrimed k).setIy v = (s.setIy v).withPrimed k := by
  rcases s with ⟨_, _, sa, sg⟩; cases sa <;> cases sg <;> rfl
@[simp] theorem State.withPrimed_setSp (v : Word) : (s.withPrimed k).setSp v = (s.setSp v).withPrimed k := by
  rcases s with ⟨_, _, sa, sg⟩; cases sa <;> cases sg <;> rfl
@[simp] theorem State.withPrimed_setPc (v : Word) : (s.withPrimed k).setPc v = (s.setPc v).withPrimed k := by
  rcases s with ⟨_, _, sa, sg⟩; cases sa <;> cases sg <;> rfl
@[simp] theorem State.withPrimed_setI (v : Byte) : (s.withPrimed k).setI v = (s.setI v).withPrimed k := by
  rcases s with ⟨_, _, sa, sg⟩; cases sa <;> cases sg <;> rfl
@[simp] theorem State.withPrimed_setR (v : Byte) : (s.withPrimed k).setR v = (s.setR v).withPrimed k := by
  rcases s with ⟨_, _, sa, sg⟩; cases sa <;> cases sg <;> rfl
@[simp] theorem State.withPrimed_setIff (a b : Bool) : (s.withPrimed k).setIff a b = (s.setIff a b).withPrimed k := by
  rcases s with ⟨_, _, sa, sg⟩; cases sa <;> cases sg <;> rfl
@[simp] theorem State.withPrimed_setIm (m : IntMode) : (s.withPrimed k).setIm m = (s.setIm m).withPrimed k := by
  rcases s with ⟨_, _, sa, sg⟩; cases sa <;> cases sg <;> rfl
@[simp] theorem State.withPrimed_setHalted (b : Bool) : (s.withPrimed k).setHalted b = (s.setHalted b).withPrimed k := by
  rcases s with ⟨_, _, sa, sg⟩; cases sa <;> cases sg <;> rfl
@[simp] theorem State.withPrimed_bumpR (n : Nat) : (s.withPrimed k).bumpR n = (s.bumpR n).withPrimed k := by
  rcases s with ⟨_, _, sa, sg⟩; cases sa <;> cases sg <;> rfl
@[simp] theorem State.withPrimed_ioWrite (p : Word) (v : Byte) : (s.withPrimed k).ioWrite p v = (s.ioWrite p v).withPrimed k := by
  rcases s with ⟨_, _, sa, sg⟩; cases sa <;> cases sg <;> rfl
@[simp] theorem State.withPrimed_writeByte (a : Word) (v : Byte) :
    (s.withPrimed k).writeByte a v = (s.writeByte a v).withPrimed k := by
  unfold State.writeByte
  rw [State.withPrimed_writable]
  split
  · rcases s with ⟨_, _, sa, sg⟩; cases sa <;> cases sg <;> rfl
  · rfl
@[simp] theorem State.withPrimed_ioRead (p : Word) : (s.withPrimed k).ioRead p = (s.ioRead p).withPrimed k := by
  unfold State.ioRead
  rw [State.withPrimed_inSlot]
  split
  · rfl
  · rcases s with ⟨_, _, sa, sg⟩; cases sa <;> cases sg <;> rfl
@[simp] theorem State.withPrimed_setFlags (fl : Flags) :
    (s.withPrimed k).setFlags fl = (s.setFlags fl).withPrimed k := by simp [State.setFlags]
@[simp] theorem State.withPrimed_setBc (v : Word) :
    (s.withPrimed k).setBc v = (s.setBc v).withPrimed k := by simp [State.setBc]
@[simp] theorem State.withPrimed_setDe (v : Word) :
    (s.withPrimed k).setDe v = (s.setDe v).withPrimed k := by simp [State.setDe]
@[simp] theorem State.withPrimed_setHl (v : Word) :
    (s.withPrimed k).setHl v = (s.setHl v).withPrimed k := by simp [State.setHl]
@[simp] theorem State.withPrimed_setAf (v : Word) :
    (s.withPrimed k).setAf v = (s.setAf v).withPrimed k := by simp [State.setAf]
@[simp] theorem State.withPrimed_writeWord (a v : Word) :
    (s.withPrimed k).writeWord a v = (s.writeWord a v).withPrimed k := by simp [State.writeWord]
@[simp] theorem State.withPrimed_push16 (v : Word) :
    (s.withPrimed k).push16 v = (s.push16 v).withPrimed k := by simp [State.push16, State.pushByte]
@[simp] theorem State.withPrimed_call (v : Word) :
    (s.withPrimed k).call v = (s.call v).withPrimed k := by simp [State.call]
@[simp] theorem State.withPrimed_dropTop :
    (s.withPrimed k).dropTop = s.dropTop.withPrimed k := by simp [State.dropTop]
@[simp] theorem State.withPrimed_ret :
    (s.withPrimed k).ret = s.ret.withPrimed k := by simp [State.ret]
@[simp] theorem State.withPrimed_jumpRelative (e : Byte) :
    (s.withPrimed k).jumpRelative e = (s.jumpRelative e).withPrimed k := by simp [State.jumpRelative]
@[simp] theorem State.withPrimed_returnFromInterrupt :
    (s.withPrimed k).returnFromInterrupt = s.returnFromInterrupt.withPrimed k := by simp [State.returnFromInterrupt]
@[simp] theorem State.withPrimed_putReg (r : Reg8) (res : Byte × Flags) :
    (s.withPrimed k).putReg r res = (s.putReg r res).withPrimed k := by simp [State.putReg]
@[simp] theorem State.withPrimed_putMem (a : Word) (res : Byte × Flags) :
    (s.withPrimed k).putMem a res = (s.putMem a res).withPrimed k := by simp [State.putMem]
@[simp] theorem State.withPrimed_afterFetch (i : Instr) :
    (s.withPrimed k).afterFetch i = (s.afterFetch i).withPrimed k := by simp [State.afterFetch]
@[simp] theorem State.withPrimed_haltedStep :
    (s.withPrimed k).haltedStep = s.haltedStep.withPrimed k := by simp [State.haltedStep]
@[simp] theorem State.withPrimed_setIndex (j : Index) (v : Word) :
    (s.withPrimed k).setIndex j v = (s.setIndex j v).withPrimed k := by
  cases j <;> simp [State.setIndex]
@[simp] theorem State.withPrimed_setHalf (j : Index) (g : Half) (v : Byte) :
    (s.withPrimed k).setHalf j g v = (s.setHalf j g v).withPrimed k := by
  cases g <;> simp [State.setHalf]
@[simp] theorem State.withPrimed_setPair (p : Pair) (v : Word) :
    (s.withPrimed k).setPair p v = (s.setPair p v).withPrimed k := by
  cases p <;> simp [State.setPair]
@[simp] theorem State.withPrimed_setStackPair (p : StackPair) (v : Word) :
    (s.withPrimed k).setStackPair p v = (s.setStackPair p v).withPrimed k := by
  cases p <;> simp [State.setStackPair]
@[simp] theorem State.withPrimed_copyTo (z : Option Reg8) (v : Byte) :
    (s.withPrimed k).copyTo z v = (s.copyTo z v).withPrimed k := by
  cases z <;> simp [State.copyTo]
@[simp] theorem State.withPrimed_repeatIf (again : Bool) :
    (s.withPrimed k).repeatIf again = (s.repeatIf again).withPrimed k := by
  cases again <;> simp [State.repeatIf]
@[simp] theorem State.withPrimed_putHalf (j : Index) (g : Half) (res : Byte × Flags) :
    (s.withPrimed k).putHalf j g res = (s.putHalf j g res).withPrimed k := by
  simp [State.putHalf]
@[simp] theorem State.withPrimed_putHl (res : Word × Flags) :
    (s.withPrimed k).putHl res = (s.putHl res).withPrimed k := by
  simp [State.putHl]
@[simp] theorem State.withPrimed_putIndex (j : Index) (res : Word × Flags) :
    (s.withPrimed k).putIndex j res = (s.putIndex j res).withPrimed k := by
  simp [State.putIndex]
@[simp] theorem State.withPrimed_blockMove (dir : Direction) :
    (s.withPrimed k).blockMove dir = (s.blockMove dir).withPrimed k := by
  simp [State.blockMove]
@[simp] theorem State.withPrimed_blockCompare (dir : Direction) :
    (s.withPrimed k).blockCompare dir = (s.blockCompare dir).withPrimed k := by
  simp [State.blockCompare]
@[simp] theorem State.withPrimed_blockIn (dir : Direction) :
    (s.withPrimed k).blockIn dir = (s.blockIn dir).withPrimed k := by
  simp [State.blockIn]
@[simp] theorem State.withPrimed_blockOut (dir : Direction) :
    (s.withPrimed k).blockOut dir = (s.blockOut dir).withPrimed k := by
  simp [State.blockOut]
@[simp] theorem State.withPrimed_rotAcc (op : RotOp) :
    (s.withPrimed k).rotAcc op = (s.rotAcc op).withPrimed k := by
  simp [State.rotAcc]
@[simp] theorem State.withPrimed_rotMem (op : RotOp) (a : Word) (z : Option Reg8) :
    (s.withPrimed k).rotMem op a z = (s.rotMem op a z).withPrimed k := by
  simp [State.rotMem]
@[simp] theorem State.withPrimed_rotDigits (hi lo acc : BitVec 4) :
    (s.withPrimed k).rotDigits hi lo acc = (s.rotDigits hi lo acc).withPrimed k := by
  simp [State.rotDigits]
@[simp] theorem State.withPrimed_putBit (a : Word) (b : BitVec 3) (x : Bool) (z : Option Reg8) :
    (s.withPrimed k).putBit a b x z = (s.putBit a b x z).withPrimed k := by
  simp [State.putBit]
@[simp] theorem State.withPrimed_loadIr (v : Byte) :
    (s.withPrimed k).loadIr v = (s.loadIr v).withPrimed k := by simp [State.loadIr]
@[simp] theorem State.withPrimed_alu (op : AluOp) (v : Byte) :
    (s.withPrimed k).alu op v = (s.alu op v).withPrimed k := by
  cases op <;> simp [State.alu]

end Sys2Proof.Machine
end

