-- ==== Sys2Proof/Tests/Slice0.lean ====
section
/-! SUPPORT. The model's own tests: ill-formed terms refused, words written out bit by bit from the spec's encodings, one
step or event on a small state with the values of spec/95_test_vectors.md, and for every statement with hypotheses a state
and operands that meet them. -/

namespace Sys2Proof.Tests

open Sys2Proof.Machine

set_option Elab.async false

/-! ### Well-formedness: one ill-formed term for each check -/

theorem test_wf_refuses_ldRIxHalf_h : Instr.wf (.ldRIxHalf .h .hi) = false := by decide
theorem test_wf_refuses_ldRIyHalf_l : Instr.wf (.ldRIyHalf .l .lo) = false := by decide
theorem test_wf_refuses_ldIxHalfR_h : Instr.wf (.ldIxHalfR .lo .h) = false := by decide
theorem test_wf_refuses_ldIyHalfR_l : Instr.wf (.ldIyHalfR .hi .l) = false := by decide
theorem test_wf_refuses_jrCc_po : Instr.wf (.jrCc .po 0) = false := by decide
theorem test_wf_refuses_noni_neg : Instr.wf (.noni 0x44) = false := by decide
theorem test_wf_refuses_retn_reti : Instr.wf (.retn 1) = false := by decide

/-! ### Decoding: one word per constructor, its bits from the encoding column of 30_encoding.md and the tables of
R104 to R107 -/

/-- The instruction that the bytes are, whole. -/
def reads (bs : List Byte) : Option Instr :=
  match decode bs with
  | .ok (i, []) => some i
  | _ => none

theorem test_decode_load8_1 :
    reads [0b01010111] = some (.ldRR .d .a)
    ∧ reads [0b00101110, 0b00010101] = some (.ldRN .l 0x15)
    ∧ reads [0b01000110] = some (.ldRHl .b)
    ∧ reads [0b01110011] = some (.ldHlR .e)
    ∧ reads [0b00110110, 0b10011001] = some (.ldHlN 0x99)
    ∧ reads [0b00001010] = some .ldABc
    ∧ reads [0b00011010] = some .ldADe
    ∧ reads [0b00111010, 0b00110100, 0b00010010] = some (.ldANn 0x1234) := by decide +kernel

theorem test_decode_load8_2 :
    reads [0b00000010] = some .ldBcA
    ∧ reads [0b00010010] = some .ldDeA
    ∧ reads [0b00110010, 0b11001101, 0b10101011] = some (.ldNnA 0xABCD)
    ∧ reads [0b11101101, 0b01010111] = some .ldAI
    ∧ reads [0b11101101, 0b01011111] = some .ldAR
    ∧ reads [0b11101101, 0b01000111] = some .ldIA
    ∧ reads [0b11101101, 0b01001111] = some .ldRA := by decide +kernel

theorem test_decode_load8_ix :
    reads [0b11011101, 0b01100110, 0b00000101] = some (.ldRIx .h 0x05)
    ∧ reads [0b11011101, 0b01110010, 0b10000000] = some (.ldIxR 0x80 .d)
    ∧ reads [0b11011101, 0b00110110, 0b00000101, 0b11110000] = some (.ldIxN 0x05 0xF0)
    ∧ reads [0b11011101, 0b01001100] = some (.ldRIxHalf .c .hi)
    ∧ reads [0b11011101, 0b01101111] = some (.ldIxHalfR .lo .a)
    ∧ reads [0b11011101, 0b01101100] = some (.ldIxHalfHalf .lo .hi)
    ∧ reads [0b11011101, 0b00100110, 0b01000010] = some (.ldIxHalfN .hi 0x42) := by decide +kernel

theorem test_decode_load8_iy :
    reads [0b11111101, 0b01001110, 0b11111110] = some (.ldRIy .c 0xFE)
    ∧ reads [0b11111101, 0b01110111, 0b00011001] = some (.ldIyR 0x19 .a)
    ∧ reads [0b11111101, 0b00110110, 0b11111110, 0b01111111] = some (.ldIyN 0xFE 0x7F)
    ∧ reads [0b11111101, 0b01011101] = some (.ldRIyHalf .e .lo)
    ∧ reads [0b11111101, 0b01101010] = some (.ldIyHalfR .lo .d)
    ∧ reads [0b11111101, 0b01100100] = some (.ldIyHalfHalf .hi .hi)
    ∧ reads [0b11111101, 0b00101110, 0b00010101] = some (.ldIyHalfN .lo 0x15) := by decide +kernel

theorem test_decode_load16 :
    reads [0b00010001, 0b11111110, 0b10000000] = some (.ldDdNn .de 0x80FE)
    ∧ reads [0b00101010, 0b11111110, 0b10000000] = some (.ldHlMem 0x80FE)
    ∧ reads [0b11101101, 0b01111011, 0b00110100, 0b00010010] = some (.ldDdMem .sp 0x1234)
    ∧ reads [0b00100010, 0b00110100, 0b00010010] = some (.ldMemHl 0x1234)
    ∧ reads [0b11101101, 0b01000011, 0b11001101, 0b10101011] = some (.ldMemDd 0xABCD .bc)
    ∧ reads [0b11111001] = some .ldSpHl
    ∧ reads [0b11110101] = some (.pushQq .af)
    ∧ reads [0b11000001] = some (.popQq .bc) := by decide +kernel

theorem test_decode_load16_ix :
    reads [0b11011101, 0b00100001, 0b00110100, 0b00010010] = some (.ldIxNn 0x1234)
    ∧ reads [0b11011101, 0b00101010, 0b11001101, 0b10101011] = some (.ldIxMem 0xABCD)
    ∧ reads [0b11011101, 0b00100010, 0b11111110, 0b10000000] = some (.ldMemIx 0x80FE)
    ∧ reads [0b11011101, 0b11111001] = some .ldSpIx
    ∧ reads [0b11011101, 0b11100101] = some .pushIx
    ∧ reads [0b11011101, 0b11100001] = some .popIx := by decide +kernel

theorem test_decode_load16_iy :
    reads [0b11111101, 0b00100001, 0b11001101, 0b10101011] = some (.ldIyNn 0xABCD)
    ∧ reads [0b11111101, 0b00101010, 0b11111110, 0b10000000] = some (.ldIyMem 0x80FE)
    ∧ reads [0b11111101, 0b00100010, 0b00110100, 0b00010010] = some (.ldMemIy 0x1234)
    ∧ reads [0b11111101, 0b11111001] = some .ldSpIy
    ∧ reads [0b11111101, 0b11100101] = some .pushIy
    ∧ reads [0b11111101, 0b11100001] = some .popIy := by decide +kernel

theorem test_decode_exchange :
    reads [0b11101011] = some .exDeHl
    ∧ reads [0b00001000] = some .exAfAf
    ∧ reads [0b11011001] = some .exx
    ∧ reads [0b11100011] = some .exSpHl
    ∧ reads [0b11101101, 0b10100000] = some .ldi
    ∧ reads [0b11101101, 0b10110000] = some .ldir
    ∧ reads [0b11101101, 0b10101000] = some .ldd
    ∧ reads [0b11101101, 0b10111000] = some .lddr
    ∧ reads [0b11101101, 0b10100001] = some .cpi
    ∧ reads [0b11101101, 0b10110001] = some .cpir
    ∧ reads [0b11101101, 0b10101001] = some .cpd
    ∧ reads [0b11101101, 0b10111001] = some .cpdr := by decide +kernel

theorem test_decode_exchange_ix :
    reads [0b11011101, 0b11100011] = some .exSpIx := by decide +kernel

theorem test_decode_exchange_iy :
    reads [0b11111101, 0b11100011] = some .exSpIy := by decide +kernel

theorem test_decode_alu8_1 :
    reads [0b10000101] = some (.addR .l)
    ∧ reads [0b11000110, 0b10011001] = some (.addN 0x99)
    ∧ reads [0b10000110] = some .addMemHl
    ∧ reads [0b10001000] = some (.adcR .b)
    ∧ reads [0b11001110, 0b11110000] = some (.adcN 0xF0)
    ∧ reads [0b10001110] = some .adcMemHl
    ∧ reads [0b10010100] = some (.subR .h)
    ∧ reads [0b11010110, 0b01111111] = some (.subN 0x7F)
    ∧ reads [0b10010110] = some .subMemHl
    ∧ reads [0b10011001] = some (.sbcR .c)
    ∧ reads [0b11011110, 0b01000010] = some (.sbcN 0x42)
    ∧ reads [0b10011110] = some .sbcMemHl
    ∧ reads [0b10100011] = some (.andR .e)
    ∧ reads [0b11100110, 0b00010101] = some (.andN 0x15) := by decide +kernel

theorem test_decode_alu8_2 :
    reads [0b10100110] = some .andMemHl
    ∧ reads [0b10110010] = some (.orR .d)
    ∧ reads [0b11110110, 0b10011001] = some (.orN 0x99)
    ∧ reads [0b10110110] = some .orMemHl
    ∧ reads [0b10101111] = some (.xorR .a)
    ∧ reads [0b11101110, 0b11110000] = some (.xorN 0xF0)
    ∧ reads [0b10101110] = some .xorMemHl
    ∧ reads [0b10111101] = some (.cpR .l)
    ∧ reads [0b11111110, 0b01111111] = some (.cpN 0x7F)
    ∧ reads [0b10111110] = some .cpMemHl
    ∧ reads [0b00000100] = some (.incR .b)
    ∧ reads [0b00110100] = some .incMemHl
    ∧ reads [0b00100101] = some (.decR .h)
    ∧ reads [0b00110101] = some .decMemHl := by decide +kernel

theorem test_decode_alu8_ix_1 :
    reads [0b11011101, 0b10000110, 0b10000000] = some (.addMemIx 0x80)
    ∧ reads [0b11011101, 0b10000101] = some (.addIxHalf .lo)
    ∧ reads [0b11011101, 0b10001110, 0b00000101] = some (.adcMemIx 0x05)
    ∧ reads [0b11011101, 0b10001100] = some (.adcIxHalf .hi)
    ∧ reads [0b11011101, 0b10010110, 0b10000000] = some (.subMemIx 0x80)
    ∧ reads [0b11011101, 0b10010101] = some (.subIxHalf .lo)
    ∧ reads [0b11011101, 0b10011110, 0b00000101] = some (.sbcMemIx 0x05)
    ∧ reads [0b11011101, 0b10011100] = some (.sbcIxHalf .hi)
    ∧ reads [0b11011101, 0b10100110, 0b10000000] = some (.andMemIx 0x80)
    ∧ reads [0b11011101, 0b10100101] = some (.andIxHalf .lo) := by decide +kernel

theorem test_decode_alu8_ix_2 :
    reads [0b11011101, 0b10110110, 0b00000101] = some (.orMemIx 0x05)
    ∧ reads [0b11011101, 0b10110100] = some (.orIxHalf .hi)
    ∧ reads [0b11011101, 0b10101110, 0b10000000] = some (.xorMemIx 0x80)
    ∧ reads [0b11011101, 0b10101101] = some (.xorIxHalf .lo)
    ∧ reads [0b11011101, 0b10111110, 0b00000101] = some (.cpMemIx 0x05)
    ∧ reads [0b11011101, 0b10111100] = some (.cpIxHalf .hi)
    ∧ reads [0b11011101, 0b00110100, 0b10000000] = some (.incMemIx 0x80)
    ∧ reads [0b11011101, 0b00101100] = some (.incIxHalf .lo)
    ∧ reads [0b11011101, 0b00110101, 0b00000101] = some (.decMemIx 0x05)
    ∧ reads [0b11011101, 0b00100101] = some (.decIxHalf .hi) := by decide +kernel

theorem test_decode_alu8_iy_1 :
    reads [0b11111101, 0b10000110, 0b00011001] = some (.addMemIy 0x19)
    ∧ reads [0b11111101, 0b10000100] = some (.addIyHalf .hi)
    ∧ reads [0b11111101, 0b10001110, 0b11111110] = some (.adcMemIy 0xFE)
    ∧ reads [0b11111101, 0b10001101] = some (.adcIyHalf .lo)
    ∧ reads [0b11111101, 0b10010110, 0b00011001] = some (.subMemIy 0x19)
    ∧ reads [0b11111101, 0b10010100] = some (.subIyHalf .hi)
    ∧ reads [0b11111101, 0b10011110, 0b11111110] = some (.sbcMemIy 0xFE)
    ∧ reads [0b11111101, 0b10011101] = some (.sbcIyHalf .lo)
    ∧ reads [0b11111101, 0b10100110, 0b00011001] = some (.andMemIy 0x19)
    ∧ reads [0b11111101, 0b10100100] = some (.andIyHalf .hi) := by decide +kernel

theorem test_decode_alu8_iy_2 :
    reads [0b11111101, 0b10110110, 0b11111110] = some (.orMemIy 0xFE)
    ∧ reads [0b11111101, 0b10110101] = some (.orIyHalf .lo)
    ∧ reads [0b11111101, 0b10101110, 0b00011001] = some (.xorMemIy 0x19)
    ∧ reads [0b11111101, 0b10101100] = some (.xorIyHalf .hi)
    ∧ reads [0b11111101, 0b10111110, 0b11111110] = some (.cpMemIy 0xFE)
    ∧ reads [0b11111101, 0b10111101] = some (.cpIyHalf .lo)
    ∧ reads [0b11111101, 0b00110100, 0b00011001] = some (.incMemIy 0x19)
    ∧ reads [0b11111101, 0b00100100] = some (.incIyHalf .hi)
    ∧ reads [0b11111101, 0b00110101, 0b11111110] = some (.decMemIy 0xFE)
    ∧ reads [0b11111101, 0b00101101] = some (.decIyHalf .lo) := by decide +kernel

theorem test_decode_control :
    reads [0b00100111] = some .daa
    ∧ reads [0b00101111] = some .cpl
    ∧ reads [0b11101101, 0b01101100] = some (.neg 5)
    ∧ reads [0b00111111] = some .ccf
    ∧ reads [0b00110111] = some .scf
    ∧ reads [0b00000000] = some .nop
    ∧ reads [0b01110110] = some .halt
    ∧ reads [0b11110011] = some .di
    ∧ reads [0b11111011] = some .ei
    ∧ reads [0b11101101, 0b01100110] = some (.im0 true false)
    ∧ reads [0b11101101, 0b01110110] = some (.im1 true)
    ∧ reads [0b11101101, 0b01011110] = some (.im2 false)
    ∧ reads [0b11101101, 0b01110111] = some (.noni 0x77)
    ∧ decode [0b11111101, 0b00000000] = .ok (.prefixIgnored true, [0x00]) := by decide +kernel

theorem test_decode_alu16 :
    reads [0b00101001] = some (.addHlSs .hl)
    ∧ reads [0b11101101, 0b01011010] = some (.adcHlSs .de)
    ∧ reads [0b11101101, 0b01110010] = some (.sbcHlSs .sp)
    ∧ reads [0b00000011] = some (.incSs .bc)
    ∧ reads [0b00101011] = some (.decSs .hl) := by decide +kernel

theorem test_decode_alu16_ix :
    reads [0b11011101, 0b00101001] = some (.addIxPp .xy)
    ∧ reads [0b11011101, 0b00100011] = some .incIx
    ∧ reads [0b11011101, 0b00101011] = some .decIx := by decide +kernel

theorem test_decode_alu16_iy :
    reads [0b11111101, 0b00111001] = some (.addIyRr .sp)
    ∧ reads [0b11111101, 0b00100011] = some .incIy
    ∧ reads [0b11111101, 0b00101011] = some .decIy := by decide +kernel

theorem test_decode_rotate_1 :
    reads [0b00000111] = some .rlca
    ∧ reads [0b00010111] = some .rla
    ∧ reads [0b00001111] = some .rrca
    ∧ reads [0b00011111] = some .rra
    ∧ reads [0b11001011, 0b00000001] = some (.rlcR .c)
    ∧ reads [0b11001011, 0b00000110] = some .rlcMemHl
    ∧ reads [0b11001011, 0b00010011] = some (.rlR .e)
    ∧ reads [0b11001011, 0b00010110] = some .rlMemHl
    ∧ reads [0b11001011, 0b00001010] = some (.rrcR .d)
    ∧ reads [0b11001011, 0b00001110] = some .rrcMemHl
    ∧ reads [0b11001011, 0b00011111] = some (.rrR .a) := by decide +kernel

theorem test_decode_rotate_2 :
    reads [0b11001011, 0b00011110] = some .rrMemHl
    ∧ reads [0b11001011, 0b00100101] = some (.slaR .l)
    ∧ reads [0b11001011, 0b00100110] = some .slaMemHl
    ∧ reads [0b11001011, 0b00101000] = some (.sraR .b)
    ∧ reads [0b11001011, 0b00101110] = some .sraMemHl
    ∧ reads [0b11001011, 0b00111100] = some (.srlR .h)
    ∧ reads [0b11001011, 0b00111110] = some .srlMemHl
    ∧ reads [0b11001011, 0b00110001] = some (.sllR .c)
    ∧ reads [0b11001011, 0b00110110] = some .sllMemHl
    ∧ reads [0b11101101, 0b01101111] = some .rld
    ∧ reads [0b11101101, 0b01100111] = some .rrd := by decide +kernel

theorem test_decode_rotate_ix :
    reads [0b11011101, 0b11001011, 0b10000000, 0b00000000] = some (.rlcMemIx 0x80 (some .b))
    ∧ reads [0b11011101, 0b11001011, 0b00000101, 0b00010111] = some (.rlMemIx 0x05 (some .a))
    ∧ reads [0b11011101, 0b11001011, 0b10000000, 0b00001110] = some (.rrcMemIx 0x80 none)
    ∧ reads [0b11011101, 0b11001011, 0b00000101, 0b00011000] = some (.rrMemIx 0x05 (some .b))
    ∧ reads [0b11011101, 0b11001011, 0b10000000, 0b00100111] = some (.slaMemIx 0x80 (some .a))
    ∧ reads [0b11011101, 0b11001011, 0b00000101, 0b00101110] = some (.sraMemIx 0x05 none)
    ∧ reads [0b11011101, 0b11001011, 0b10000000, 0b00111000] = some (.srlMemIx 0x80 (some .b))
    ∧ reads [0b11011101, 0b11001011, 0b00000101, 0b00110111] = some (.sllMemIx 0x05 (some .a)) := by decide +kernel

theorem test_decode_rotate_iy :
    reads [0b11111101, 0b11001011, 0b00011001, 0b00000110] = some (.rlcMemIy 0x19 none)
    ∧ reads [0b11111101, 0b11001011, 0b11111110, 0b00010100] = some (.rlMemIy 0xFE (some .h))
    ∧ reads [0b11111101, 0b11001011, 0b00011001, 0b00001011] = some (.rrcMemIy 0x19 (some .e))
    ∧ reads [0b11111101, 0b11001011, 0b11111110, 0b00011110] = some (.rrMemIy 0xFE none)
    ∧ reads [0b11111101, 0b11001011, 0b00011001, 0b00100100] = some (.slaMemIy 0x19 (some .h))
    ∧ reads [0b11111101, 0b11001011, 0b11111110, 0b00101011] = some (.sraMemIy 0xFE (some .e))
    ∧ reads [0b11111101, 0b11001011, 0b00011001, 0b00111110] = some (.srlMemIy 0x19 none)
    ∧ reads [0b11111101, 0b11001011, 0b11111110, 0b00110100] = some (.sllMemIy 0xFE (some .h)) := by decide +kernel

theorem test_decode_bit :
    reads [0b11001011, 0b01010011] = some (.bitR 2 .e)
    ∧ reads [0b11001011, 0b01111110] = some (.bitMemHl 7)
    ∧ reads [0b11001011, 0b11010010] = some (.setR 2 .d)
    ∧ reads [0b11001011, 0b11111110] = some (.setMemHl 7)
    ∧ reads [0b11001011, 0b10011111] = some (.resR 3 .a)
    ∧ reads [0b11001011, 0b10101110] = some (.resMemHl 5) := by decide +kernel

theorem test_decode_bit_ix :
    reads [0b11011101, 0b11001011, 0b10000000, 0b01001110] = some (.bitMemIx 1 0x80 6)
    ∧ reads [0b11011101, 0b11001011, 0b00000101, 0b11001110] = some (.setMemIx 1 0x05 none)
    ∧ reads [0b11011101, 0b11001011, 0b10000000, 0b10010000] = some (.resMemIx 2 0x80 (some .b)) := by decide +kernel

theorem test_decode_bit_iy :
    reads [0b11111101, 0b11001011, 0b00011001, 0b01011101] = some (.bitMemIy 3 0x19 5)
    ∧ reads [0b11111101, 0b11001011, 0b11111110, 0b11110011] = some (.setMemIy 6 0xFE (some .e))
    ∧ reads [0b11111101, 0b11001011, 0b00011001, 0b10111110] = some (.resMemIy 7 0x19 none) := by decide +kernel

theorem test_decode_jump :
    reads [0b11000011, 0b11001101, 0b10101011] = some (.jpNn 0xABCD)
    ∧ reads [0b11101010, 0b11111110, 0b10000000] = some (.jpCc .pe 0x80FE)
    ∧ reads [0b00011000, 0b00000101] = some (.jr 0x05)
    ∧ reads [0b00110000, 0b11111110] = some (.jrCc .nc 0xFE)
    ∧ reads [0b11101001] = some .jpHl
    ∧ reads [0b00010000, 0b10000000] = some (.djnz 0x80)
    ∧ reads [0b11001101, 0b00110100, 0b00010010] = some (.callNn 0x1234)
    ∧ reads [0b11010100, 0b11001101, 0b10101011] = some (.callCc .nc 0xABCD)
    ∧ reads [0b11001001] = some .ret
    ∧ reads [0b11111000] = some (.retCc .m)
    ∧ reads [0b11101101, 0b01001101] = some .reti
    ∧ reads [0b11101101, 0b01101101] = some (.retn 5)
    ∧ reads [0b11110111] = some (.rst 6) := by decide +kernel

theorem test_decode_jump_ix :
    reads [0b11011101, 0b11101001] = some .jpIx := by decide +kernel

theorem test_decode_jump_iy :
    reads [0b11111101, 0b11101001] = some .jpIy := by decide +kernel

theorem test_decode_io :
    reads [0b11011011, 0b00010101] = some (.inAN 0x15)
    ∧ reads [0b11101101, 0b01101000] = some (.inRC .l)
    ∧ reads [0b11101101, 0b01110000] = some .inC
    ∧ reads [0b11101101, 0b10100010] = some .ini
    ∧ reads [0b11101101, 0b10110010] = some .inir
    ∧ reads [0b11101101, 0b10101010] = some .ind
    ∧ reads [0b11101101, 0b10111010] = some .indr
    ∧ reads [0b11010011, 0b10011001] = some (.outNA 0x99)
    ∧ reads [0b11101101, 0b01000001] = some (.outCR .b)
    ∧ reads [0b11101101, 0b01110001] = some .outC0
    ∧ reads [0b11101101, 0b10100011] = some .outi
    ∧ reads [0b11101101, 0b10110011] = some .otir
    ∧ reads [0b11101101, 0b10101011] = some .outd
    ∧ reads [0b11101101, 0b10111011] = some .otdr := by decide +kernel

/-- An instruction cut short is refused by name. -/
theorem test_decode_refuses_cut : decode [0xDD, 0xCB, 0x05] = .error .needsMoreBytes := by decide +kernel

/-- The words of the table, the first byte most significant (log entry 2). -/
theorem test_decode_table_words :
    decodeTableWord 16 0x3E42 = some (.ldRN .a 0x42) ∧ decodeTableWord 32 0xDDCB0536 = some (.sllMemIx 5 none) := by
  decide +kernel

/-! ### One step or event: the vectors of spec/95_test_vectors.md, named after the instruction and the vector -/

/-- The start of a vector: the creation state with PC at 0x0100, the host's changes, memory cells, and the bytes of the
instruction at PC. -/
def start (memSize : Nat) (profile : FlagsProfile) (code : List Byte) (cells : List (Nat × Byte)) (changes : List Poke) :
    State :=
  let s := changes.foldl State.poke ((State.create memSize none profile).setPc 0x100)
  let mem := Memory.putAll s.mem s.pc.toNat code
  { s with mem := cells.foldl (fun m cell => Memory.put m cell.1 cell.2) mem }

/-- The T-states an event takes on `s` (70_reset_and_hazards.md R691; 60_exceptions.md R639). -/
def eventT (op : HostOp) (s : State) : Option Nat :=
  match op with
  | .step => some (stepT s)
  | .interrupt data => interruptT data s
  | .nmi => some nmiT
  | _ => none

/-- What `look` sees after one event that takes `cycles` T-states. -/
def sees {α : Type} (s : State) (op : HostOp) (cycles : Nat) (look : State → α) : Option α :=
  if eventT op s = some cycles then
    match perform op s with
    | .next t => some (look t)
    | _ => none
  else none

theorem test_ldMemHl_V20_2 : sees (start 65536 .source [0x22, 0xFF, 0x2F] []
    [.reg false .h 0x12, .reg false .l 0x34, .rom (some (0x2000, 0x2FFF))]) .step 16
    (fun t => (t.readByte 0x3000, t.pc)) = some (0x12, 0x103) := by decide +kernel

theorem test_ldANn_V20_3 : sees (start 32768 .source [0x3A, 0x00, 0x90] []
    [.reg false .a 0x11]) .step 13
    (fun t => (t.reg .a, t.pc)) = some (0x00, 0x103) := by decide +kernel

theorem test_pushQq_V20_5 : sees (start 32768 .source [0xC5] []
    [.sp 0x8001, .reg false .b 0xA1, .reg false .c 0xB2]) .step 11
    (fun t => (t.sp, t.readByte 0x7FFF)) = some (0x7FFF, 0xB2) := by decide +kernel

theorem test_ldRN_V20_6 : sees (start 65536 .source [0x3E] [(0x00, 0x42)]
    [.pc 0xFFFF]) .step 7
    (fun t => (t.reg .a, t.pc)) = some (0x42, 0x01) := by decide +kernel

theorem test_bitMemIx_V30_2 : sees (start 65536 .source [0xDD, 0xCB, 0x00, 0x46] []
    [.r 0x7E]) .step 20
    (fun t => (t.regR, t.f)) = some (0x00, 0x54) := by decide +kernel

theorem test_ldRR_V40_1 : sees (start 65536 .source [0x47] []
    [.reg false .a 0x5A]) .step 4
    (fun t => (t.reg .b, t.pc)) = some (0x5A, 0x101) := by decide +kernel

theorem test_ldRN_V40_3 : sees (start 65536 .source [0x0E, 0x99] []
    []) .step 7
    (fun t => (t.reg .c, t.pc)) = some (0x99, 0x102) := by decide +kernel

theorem test_ldRHl_V40_4 : sees (start 65536 .source [0x7E] [(0x2000, 0xAB)]
    [.reg false .h 0x20, .reg false .l 0x00]) .step 7
    (fun t => (t.reg .a, t.pc)) = some (0xAB, 0x101) := by decide +kernel

theorem test_ldRIx_V40_6 : sees (start 65536 .source [0xDD, 0x46, 0xF0] [(0x259F, 0x44)]
    [.ix 0x25AF]) .step 19
    (fun t => (t.reg .b, t.pc)) = some (0x44, 0x103) := by decide +kernel

theorem test_ldRIy_V40_8 : sees (start 65536 .source [0xFD, 0x4E, 0x7F] [(0x6F, 0x12)]
    [.iy 0xFFF0]) .step 19
    (fun t => (t.reg .c, t.pc)) = some (0x12, 0x103) := by decide +kernel

theorem test_ldIxR_V40_10 : sees (start 65536 .source [0xDD, 0x75, 0x80] []
    [.ix 0x1080, .reg false .l 0x5C]) .step 19
    (fun t => (t.readByte 0x1000, t.pc)) = some (0x5C, 0x103) := by decide +kernel

theorem test_ldHlN_V40_12 : sees (start 65536 .source [0x36, 0x42] []
    [.reg false .h 0x30, .reg false .l 0x00]) .step 10
    (fun t => (t.readByte 0x3000, t.pc)) = some (0x42, 0x102) := by decide +kernel

theorem test_ldABc_V40_15 : sees (start 65536 .source [0x0A] [(0x2000, 0x11)]
    [.reg false .b 0x20, .reg false .c 0x00]) .step 7
    (fun t => (t.reg .a, t.pc)) = some (0x11, 0x101) := by decide +kernel

theorem test_ldANn_V40_17 : sees (start 65536 .source [0x3A, 0x34, 0x12] [(0x1234, 0x5E)]
    []) .step 13
    (fun t => (t.reg .a, t.pc)) = some (0x5E, 0x103) := by decide +kernel

theorem test_ldNnA_V40_20 : sees (start 65536 .source [0x32, 0xFF, 0xFF] []
    [.reg false .a 0xC3]) .step 13
    (fun t => (t.readByte 0xFFFF, t.pc)) = some (0xC3, 0x103) := by decide +kernel

theorem test_ldAI_V40_22 : sees (start 65536 .source [0xED, 0x57] []
    [.i 0x00, .iff2 false, .f false 0xFE]) .step 9
    (fun t => (t.f, t.pc)) = some (0x40, 0x102) := by decide +kernel

theorem test_ldAR_V40_23 : sees (start 65536 .source [0xED, 0x5F] []
    [.r 0x7F, .iff2 true]) .step 9
    (fun t => (t.reg .a, t.f)) = some (0x01, 0x04) := by decide +kernel

theorem test_ldRA_V40_26 : sees (start 65536 .source [0xED, 0x4F] []
    [.reg false .a 0x80]) .step 9
    (fun t => (t.regR, t.pc)) = some (0x80, 0x102) := by decide +kernel

theorem test_ldRIxHalf_V40_27 : sees (start 65536 .source [0xDD, 0x44] []
    [.ix 0x1234]) .step 8
    (fun t => (t.reg .b, t.pc)) = some (0x12, 0x102) := by decide +kernel

theorem test_ldIxHalfHalf_V40_29 : sees (start 65536 .source [0xDD, 0x65] []
    [.ix 0x1234]) .step 8
    (fun t => (t.ix, t.pc)) = some (0x3434, 0x102) := by decide +kernel

theorem test_ldIyHalfR_V40_32 : sees (start 65536 .source [0xFD, 0x60] []
    [.reg false .b 0x77, .iy 0xABCD]) .step 8
    (fun t => (t.iy, t.pc)) = some (0x77CD, 0x102) := by decide +kernel

theorem test_ldHlMem_V41_6 : sees (start 65536 .source [0x2A, 0xFF, 0xFF] [(0xFFFF, 0x78), (0x00, 0x56)]
    []) .step 16
    (fun t => (t.reg .h, t.reg .l)) = some (0x56, 0x78) := by decide +kernel

theorem test_ldDdMem_V41_8 : sees (start 65536 .source [0xED, 0x7B, 0x00, 0x20] [(0x2000, 0x00), (0x2001, 0xF0)]
    []) .step 20
    (fun t => (t.sp, t.pc)) = some (0xF000, 0x104) := by decide +kernel

theorem test_ldIyMem_V41_10 : sees (start 65536 .source [0xFD, 0x2A, 0x00, 0x20] [(0x2000, 0x33), (0x2001, 0x44)]
    []) .step 20
    (fun t => (t.iy, t.pc)) = some (0x4433, 0x104) := by decide +kernel

theorem test_ldMemHl_V41_12 : sees (start 65536 .source [0x22, 0xFF, 0xFF] []
    [.reg false .h 0x12, .reg false .l 0x34]) .step 16
    (fun t => (t.readByte 0x0000, t.readByte 0xFFFF)) = some (0x12, 0x34) := by decide +kernel

theorem test_ldMemDd_V41_14 : sees (start 65536 .source [0xED, 0x73, 0x00, 0x30] []
    [.sp 0x9ABC]) .step 20
    (fun t => (t.readByte 0x3000, t.readByte 0x3001)) = some (0xBC, 0x9A) := by decide +kernel

theorem test_ldMemIx_V41_15 : sees (start 65536 .source [0xDD, 0x22, 0x00, 0x30] []
    [.ix 0x1357]) .step 20
    (fun t => (t.readByte 0x3000, t.readByte 0x3001)) = some (0x57, 0x13) := by decide +kernel

theorem test_ldSpHl_V41_17 : sees (start 65536 .source [0xF9] []
    [.reg false .h 0xAB, .reg false .l 0xCD]) .step 6
    (fun t => (t.sp, t.pc)) = some (0xABCD, 0x101) := by decide +kernel

theorem test_pushQq_V41_21 : sees (start 65536 .source [0xF5] []
    [.reg false .a 0x12, .f false 0xD7, .sp 0x8000]) .step 11
    (fun t => (t.sp, t.readByte 0x7FFE)) = some (0x7FFE, 0xD7) := by decide +kernel

theorem test_popQq_V41_26 : sees (start 65536 .source [0xF1] [(0x7FFE, 0xFF), (0x7FFF, 0x00)]
    [.sp 0x7FFE]) .step 10
    (fun t => (t.f, t.sp)) = some (0xFF, 0x8000) := by decide +kernel

theorem test_popIx_V41_28 : sees (start 65536 .source [0xDD, 0xE1] [(0x7FFE, 0x78), (0x7FFF, 0x56)]
    [.sp 0x7FFE]) .step 14
    (fun t => (t.ix, t.sp)) = some (0x5678, 0x8000) := by decide +kernel

theorem test_exDeHl_V42_1 : sees (start 65536 .source [0xEB] []
    [.reg false .d 0x11, .reg false .e 0x11, .reg false .h 0x22, .reg false .l 0x22]) .step 4
    (fun t => (t.reg .d, t.reg .e)) = some (0x22, 0x22) := by decide +kernel

theorem test_exAfAf_V42_2 : sees (start 65536 .source [0x08] []
    [.reg false .a 0x11, .f false 0x22]) .step 4
    (fun t => (t.reg .a, t.f)) = some (0x00, 0x00) := by decide +kernel

theorem test_exx_V42_4 : sees (start 65536 .source [0xD9] []
    [.reg false .b 0x01, .reg false .c 0x02, .reg false .d 0x03, .reg false .e 0x04, .reg false .h 0x05, .reg false .l 0x06, .reg false .a 0x77]) .step 4
    (fun t => (t.reg .b, t.reg .c)) = some (0x00, 0x00) := by decide +kernel

theorem test_exSpHl_V42_5 : sees (start 65536 .source [0xE3] [(0x8000, 0x34), (0x8001, 0x12)]
    [.sp 0x8000, .reg false .h 0xAB, .reg false .l 0xCD]) .step 19
    (fun t => (t.reg .h, t.reg .l)) = some (0x12, 0x34) := by decide +kernel

theorem test_exSpIx_V42_6 : sees (start 65536 .source [0xDD, 0xE3] [(0x8000, 0x34), (0x8001, 0x12)]
    [.sp 0x8000, .ix 0xABCD]) .step 23
    (fun t => (t.ix, t.readByte 0x8000)) = some (0x1234, 0xCD) := by decide +kernel

theorem test_ldi_V42_8 : sees (start 65536 .source [0xED, 0xA0] [(0x1000, 0x0A)]
    [.reg false .h 0x10, .reg false .l 0x00, .reg false .d 0x20, .reg false .e 0x00, .reg false .b 0x00, .reg false .c 0x02, .reg false .a 0x00, .f false 0xC1]) .step 16
    (fun t => (t.f, t.reg .c)) = some (0xED, 0x01) := by decide +kernel

theorem test_ldi_V42_10 : sees (start 65536 .source [0xED, 0xA0] [(0xFFFF, 0x5A)]
    [.reg false .h 0xFF, .reg false .l 0xFF, .reg false .d 0xFF, .reg false .e 0xFF, .reg false .b 0x00, .reg false .c 0x00]) .step 16
    (fun t => (t.f, t.reg .b)) = some (0x2C, 0xFF) := by decide +kernel

theorem test_ldir_V42_12 : sees (start 65536 .source [0xED, 0xB0] [(0x1111, 0x88), (0x1112, 0x36), (0x1113, 0xA5)]
    [.reg false .h 0x11, .reg false .l 0x11, .reg false .d 0x22, .reg false .e 0x22, .reg false .b 0x00, .reg false .c 0x03]) .step 21
    (fun t => (t.f, t.reg .c)) = some (0x0C, 0x02) := by decide +kernel

theorem test_ldd_V42_13 : sees (start 65536 .source [0xED, 0xA8] [(0x1000, 0x7E)]
    [.reg false .h 0x10, .reg false .l 0x00, .reg false .d 0x20, .reg false .e 0x00, .reg false .b 0x00, .reg false .c 0x05]) .step 16
    (fun t => (t.f, t.reg .c)) = some (0x2C, 0x04) := by decide +kernel

theorem test_cpi_V42_16 : sees (start 65536 .source [0xED, 0xA1] [(0x1000, 0x01)]
    [.reg false .h 0x10, .reg false .l 0x00, .reg false .b 0x00, .reg false .c 0x01, .reg false .a 0x10]) .step 16
    (fun t => (t.f, t.reg .c)) = some (0x3A, 0x00) := by decide +kernel

theorem test_cpd_V42_19 : sees (start 65536 .source [0xED, 0xA9] [(0x1000, 0x02)]
    [.reg false .h 0x10, .reg false .l 0x00, .reg false .b 0x00, .reg false .c 0x03, .reg false .a 0x01]) .step 16
    (fun t => (t.f, t.reg .c)) = some (0xBE, 0x02) := by decide +kernel

theorem test_addR_V43_1 : sees (start 65536 .source [0x80] []
    [.reg false .a 0x7F, .reg false .b 0x01]) .step 4
    (fun t => (t.reg .a, t.f)) = some (0x80, 0x94) := by decide +kernel

theorem test_addMemIx_V43_5 : sees (start 65536 .source [0xDD, 0x86, 0xFF] [(0x2000, 0x20)]
    [.reg false .a 0x10, .ix 0x2001]) .step 19
    (fun t => (t.reg .a, t.f)) = some (0x30, 0x20) := by decide +kernel

theorem test_adcN_V43_8 : sees (start 65536 .source [0xCE, 0xFF] []
    [.reg false .a 0x00, .f false 0x01]) .step 7
    (fun t => (t.f, t.pc)) = some (0x51, 0x102) := by decide +kernel

theorem test_subR_V43_10 : sees (start 65536 .source [0x90] []
    [.reg false .a 0x80, .reg false .b 0x01]) .step 4
    (fun t => (t.reg .a, t.f)) = some (0x7F, 0x3E) := by decide +kernel

theorem test_sbcN_V43_14 : sees (start 65536 .source [0xDE, 0x7F] []
    [.reg false .a 0x80, .f false 0x00]) .step 7
    (fun t => (t.reg .a, t.f)) = some (0x01, 0x16) := by decide +kernel

theorem test_andR_V43_15 : sees (start 65536 .source [0xA0] []
    [.reg false .a 0xF0, .reg false .b 0x0F]) .step 4
    (fun t => (t.reg .a, t.f)) = some (0x00, 0x54) := by decide +kernel

theorem test_orN_V43_18 : sees (start 65536 .source [0xF6, 0x28] []
    [.reg false .a 0x01]) .step 7
    (fun t => (t.reg .a, t.f)) = some (0x29, 0x28) := by decide +kernel

theorem test_xorN_V43_20 : sees (start 65536 .source [0xEE, 0x0F] []
    [.reg false .a 0xF0]) .step 7
    (fun t => (t.reg .a, t.f)) = some (0xFF, 0xAC) := by decide +kernel

theorem test_cpR_V43_21 : sees (start 65536 .source [0xB8] []
    [.reg false .a 0x10, .reg false .b 0x28]) .step 4
    (fun t => (t.f, t.pc)) = some (0xBB, 0x101) := by decide +kernel

theorem test_cpMemIx_V43_23 : sees (start 65536 .source [0xDD, 0xBE, 0x02] [(0x2002, 0x01)]
    [.reg false .a 0x80, .ix 0x2000]) .step 19
    (fun t => (t.f, t.pc)) = some (0x16, 0x103) := by decide +kernel

theorem test_incR_V43_25 : sees (start 65536 .source [0x3C] []
    [.reg false .a 0xFF, .f false 0x00]) .step 4
    (fun t => (t.reg .a, t.f)) = some (0x00, 0x50) := by decide +kernel

theorem test_incMemIx_V43_29 : sees (start 65536 .source [0xDD, 0x34, 0x80] [(0x2000, 0xFF)]
    [.ix 0x2080, .f false 0x01]) .step 23
    (fun t => (t.f, t.readByte 0x2000)) = some (0x51, 0x00) := by decide +kernel

theorem test_decR_V43_31 : sees (start 65536 .source [0x3D] []
    [.reg false .a 0x80, .f false 0x01]) .step 4
    (fun t => (t.reg .a, t.f)) = some (0x7F, 0x3F) := by decide +kernel

theorem test_decMemIy_V43_35 : sees (start 65536 .source [0xFD, 0x35, 0x00] [(0x2000, 0x00)]
    [.iy 0x2000]) .step 23
    (fun t => (t.f, t.readByte 0x2000)) = some (0xBA, 0xFF) := by decide +kernel

theorem test_decIyHalf_V43_36 : sees (start 65536 .source [0xFD, 0x2D] []
    [.iy 0x1200]) .step 8
    (fun t => (t.f, t.iy)) = some (0xBA, 0x12FF) := by decide +kernel

theorem test_daa_V44_3 : sees (start 65536 .source [0x27] []
    [.reg false .a 0x9A, .f false 0x00]) .step 4
    (fun t => (t.reg .a, t.f)) = some (0x00, 0x55) := by decide +kernel

theorem test_daa_V44_6 : sees (start 65536 .source [0x27] []
    [.reg false .a 0xFF, .f false 0x02]) .step 4
    (fun t => (t.reg .a, t.f)) = some (0x99, 0x8F) := by decide +kernel

theorem test_cpl_V44_7 : sees (start 65536 .source [0x2F] []
    [.reg false .a 0x5A]) .step 4
    (fun t => (t.reg .a, t.f)) = some (0xA5, 0x32) := by decide +kernel

theorem test_neg_V44_9 : sees (start 65536 .source [0xED, 0x44] []
    [.reg false .a 0x80]) .step 8
    (fun t => (t.f, t.pc)) = some (0x87, 0x102) := by decide +kernel

theorem test_ccf_V44_13 : sees (start 65536 .source [0x3F] []
    [.reg false .a 0x00, .f false 0xC2]) .step 4
    (fun t => (t.f, t.pc)) = some (0xC1, 0x101) := by decide +kernel

theorem test_scf_V44_14 : sees (start 65536 .source [0x37] []
    [.reg false .a 0xFF, .f false 0x12]) .step 4
    (fun t => (t.f, t.pc)) = some (0x29, 0x101) := by decide +kernel

theorem test_ei_V44_18 : sees (start 65536 .source [0xFB] []
    []) .step 4
    (fun t => (t.iff1, t.iff2)) = some (true, true) := by decide +kernel

theorem test_im0_V44_20 : sees (start 65536 .source [0xED, 0x6E] []
    [.im .im1]) .step 8
    (fun t => (t.im, t.pc)) = some (.im0, 0x102) := by decide +kernel

theorem test_addHlSs_V45_3 : sees (start 65536 .source [0x19] []
    [.reg false .h 0x0F, .reg false .l 0xFF, .reg false .d 0x00, .reg false .e 0x01, .f false 0xC6]) .step 11
    (fun t => (t.f, t.reg .h)) = some (0xD6, 0x10) := by decide +kernel

theorem test_addHlSs_V45_4 : sees (start 65536 .nmos [0x19] []
    [.reg false .h 0x0F, .reg false .l 0xFF, .reg false .d 0x00, .reg false .e 0x01, .f false 0xC6]) .step 11
    (fun t => (t.f, t.reg .h)) = some (0xD4, 0x10) := by decide +kernel

theorem test_adcHlSs_V45_7 : sees (start 65536 .source [0xED, 0x4A] []
    [.reg false .h 0x7F, .reg false .l 0xFF, .reg false .b 0x00, .reg false .c 0x00, .f false 0x01]) .step 15
    (fun t => (t.f, t.reg .h)) = some (0x94, 0x80) := by decide +kernel

theorem test_sbcHlSs_V45_13 : sees (start 65536 .source [0xED, 0x72] []
    [.reg false .h 0x80, .reg false .l 0x00, .sp 0x01]) .step 15
    (fun t => (t.f, t.reg .h)) = some (0x3E, 0x7F) := by decide +kernel

theorem test_addIxPp_V45_15 : sees (start 65536 .source [0xDD, 0x29] []
    [.ix 0x800, .reg false .h 0x11, .reg false .l 0x11]) .step 15
    (fun t => (t.f, t.ix)) = some (0x10, 0x1000) := by decide +kernel

theorem test_incIx_V45_18 : sees (start 65536 .source [0xDD, 0x23] []
    [.ix 0xFFFF]) .step 10
    (fun t => (t.ix, t.pc)) = some (0x00, 0x102) := by decide +kernel

theorem test_rlca_V46_1 : sees (start 65536 .source [0x07] []
    [.reg false .a 0x95, .f false 0xC4]) .step 4
    (fun t => (t.reg .a, t.f)) = some (0x2B, 0xC5) := by decide +kernel

theorem test_rlca_V46_2 : sees (start 65536 .nmos [0x07] []
    [.reg false .a 0x95, .f false 0xC4]) .step 4
    (fun t => (t.reg .a, t.f)) = some (0x2B, 0xED) := by decide +kernel

theorem test_rla_V46_3 : sees (start 65536 .source [0x17] []
    [.reg false .a 0x80, .f false 0x00]) .step 4
    (fun t => (t.reg .a, t.f)) = some (0x00, 0x01) := by decide +kernel

theorem test_rra_V46_7 : sees (start 65536 .nmos [0x1F] []
    [.reg false .a 0x50, .f false 0x01]) .step 4
    (fun t => (t.reg .a, t.f)) = some (0xA8, 0x28) := by decide +kernel

theorem test_rlMemHl_V46_10 : sees (start 65536 .source [0xCB, 0x16] [(0x2000, 0x7F)]
    [.reg false .h 0x20, .reg false .l 0x00, .f false 0x01]) .step 15
    (fun t => (t.f, t.readByte 0x2000)) = some (0xAC, 0xFF) := by decide +kernel

theorem test_sraR_V46_14 : sees (start 65536 .source [0xCB, 0x2C] []
    [.reg false .h 0x81]) .step 8
    (fun t => (t.f, t.reg .h)) = some (0x85, 0xC0) := by decide +kernel

theorem test_sllR_V46_16 : sees (start 65536 .source [0xCB, 0x37] []
    [.reg false .a 0x80]) .step 8
    (fun t => (t.reg .a, t.f)) = some (0x01, 0x01) := by decide +kernel

theorem test_rlcMemIx_V46_19 : sees (start 65536 .source [0xDD, 0xCB, 0x01, 0x00] [(0x2001, 0x81)]
    [.ix 0x2000]) .step 23
    (fun t => (t.f, t.reg .b)) = some (0x05, 0x03) := by decide +kernel

theorem test_sllMemIy_V46_21 : sees (start 65536 .source [0xFD, 0xCB, 0x00, 0x37] [(0x2000, 0x01)]
    [.iy 0x2000]) .step 23
    (fun t => (t.reg .a, t.f)) = some (0x03, 0x04) := by decide +kernel

theorem test_rld_V46_22 : sees (start 65536 .source [0xED, 0x6F] [(0x5000, 0x31)]
    [.reg false .a 0x7A, .reg false .h 0x50, .reg false .l 0x00]) .step 18
    (fun t => (t.reg .a, t.f)) = some (0x73, 0x20) := by decide +kernel

theorem test_rrd_V46_23 : sees (start 65536 .source [0xED, 0x67] [(0x5000, 0x20)]
    [.reg false .a 0x84, .reg false .h 0x50, .reg false .l 0x00, .f false 0x01]) .step 18
    (fun t => (t.reg .a, t.f)) = some (0x80, 0x81) := by decide +kernel

theorem test_bitR_V47_1 : sees (start 65536 .source [0xCB, 0x7F] []
    [.reg false .a 0x80]) .step 8
    (fun t => (t.f, t.pc)) = some (0x90, 0x102) := by decide +kernel

theorem test_bitR_V47_3 : sees (start 65536 .source [0xCB, 0x5F] []
    [.reg false .a 0x28]) .step 8
    (fun t => (t.f, t.pc)) = some (0x38, 0x102) := by decide +kernel

theorem test_bitMemHl_V47_4 : sees (start 65536 .source [0xCB, 0x5E] [(0x2800, 0x08)]
    [.reg false .h 0x28, .reg false .l 0x00]) .step 12
    (fun t => (t.f, t.pc)) = some (0x38, 0x102) := by decide +kernel

theorem test_bitMemIx_V47_6 : sees (start 65536 .source [0xDD, 0xCB, 0x10, 0x7E] [(0x2800, 0x80)]
    [.ix 0x27F0]) .step 20
    (fun t => (t.f, t.pc)) = some (0xB8, 0x104) := by decide +kernel

theorem test_setMemIx_V47_11 : sees (start 65536 .source [0xDD, 0xCB, 0x01, 0xC0] [(0x2001, 0x10)]
    [.ix 0x2000]) .step 23
    (fun t => (t.reg .b, t.readByte 0x2001)) = some (0x11, 0x11) := by decide +kernel

theorem test_resMemIy_V47_14 : sees (start 65536 .source [0xFD, 0xCB, 0xFE, 0x8F] [(0x2000, 0x03)]
    [.iy 0x2002]) .step 23
    (fun t => (t.reg .a, t.readByte 0x2000)) = some (0x01, 0x01) := by decide +kernel

theorem test_jpCc_V48_5 : sees (start 65536 .source [0xFA, 0x00, 0x80] []
    [.f false 0x7F]) .step 10
    (fun t => t.pc) = some 0x103 := by decide +kernel

theorem test_jr_V48_8 : sees (start 65536 .source [0x18, 0x80] []
    []) .step 12
    (fun t => t.pc) = some 0x82 := by decide +kernel

theorem test_jrCc_V48_11 : sees (start 65536 .source [0x20, 0xFC] []
    [.f false 0x00]) .step 12
    (fun t => t.pc) = some 0xFE := by decide +kernel

theorem test_djnz_V48_17 : sees (start 65536 .source [0x10, 0x10] []
    [.reg false .b 0x00]) .step 13
    (fun t => (t.reg .b, t.pc)) = some (0xFF, 0x112) := by decide +kernel

theorem test_callCc_V48_20 : sees (start 65536 .source [0xCC, 0x00, 0x20] []
    [.sp 0x8000, .f false 0x40]) .step 17
    (fun t => (t.sp, t.readByte 0x7FFE, t.pc)) = some (0x7FFE, 0x03, 0x2000) := by decide +kernel

theorem test_retCc_V48_22 : sees (start 65536 .source [0xD8] [(0x7FFE, 0x03), (0x7FFF, 0x01)]
    [.sp 0x7FFE, .f false 0x00]) .step 5
    (fun t => t.pc) = some 0x101 := by decide +kernel

theorem test_retn_V48_25 : sees (start 65536 .source [0xED, 0x45] [(0xFFFC, 0x34), (0xFFFD, 0x12)]
    [.sp 0xFFFC, .iff1 false, .iff2 true]) .step 14
    (fun t => (t.sp, t.iff1, t.pc)) = some (0xFFFE, true, 0x1234) := by decide +kernel

theorem test_rst_V48_28 : sees (start 65536 .source [0xC7] []
    [.sp 0x00]) .step 11
    (fun t => (t.sp, t.readByte 0xFFFE, t.pc)) = some (0xFFFE, 0x01, 0x00) := by decide +kernel

theorem test_inAN_V49_1 : sees (start 65536 .source [0xDB, 0x10] []
    [.reg false .a 0x12, .f false 0xFF, .inSlot 0x10 (some 0x5A)]) .step 11
    (fun t => (t.reg .a, t.pc)) = some (0x5A, 0x102) := by decide +kernel

theorem test_inC_V49_4 : sees (start 65536 .source [0xED, 0x70] []
    [.reg false .b 0x01, .reg false .c 0x20, .f false 0x01, .inSlot 0x20 (some 0x28)]) .step 12
    (fun t => (t.f, t.pc)) = some (0x2D, 0x102) := by decide +kernel

theorem test_ini_V49_6 : sees (start 65536 .source [0xED, 0xA2] []
    [.reg false .b 0x01, .reg false .c 0x10, .reg false .h 0x30, .reg false .l 0x00, .inSlot 0x10 (some 0xF1)]) .step 16
    (fun t => (t.f, t.reg .b)) = some (0x53, 0x00) := by decide +kernel

theorem test_ind_V49_8 : sees (start 65536 .source [0xED, 0xAA] []
    [.reg false .b 0x05, .reg false .c 0x10, .reg false .h 0x30, .reg false .l 0x00, .inSlot 0x10 (some 0x80)]) .step 16
    (fun t => (t.f, t.reg .b)) = some (0x06, 0x04) := by decide +kernel

theorem test_outCR_V49_11 : sees (start 65536 .source [0xED, 0x79] []
    [.reg false .b 0x12, .reg false .c 0xFE, .reg false .a 0x55]) .step 12
    (fun t => (t.outSlot 0xFE, t.pc)) = some (some 0x55, 0x102) := by decide +kernel

theorem test_outC0_V49_13 : sees (start 65536 .source [0xED, 0x71] []
    [.reg false .b 0x00, .reg false .c 0x33]) .step 12
    (fun t => (t.outSlot 0x33, t.pc)) = some (some 0x00, 0x102) := by decide +kernel

theorem test_outi_V49_14 : sees (start 65536 .source [0xED, 0xA3] [(0x3000, 0x81)]
    [.reg false .b 0x02, .reg false .c 0x40, .reg false .h 0x30, .reg false .l 0x00]) .step 16
    (fun t => (t.f, t.reg .b)) = some (0x06, 0x01) := by decide +kernel

theorem test_outd_V49_16 : sees (start 65536 .source [0xED, 0xAB] [(0x30FF, 0x02)]
    [.reg false .b 0x01, .reg false .c 0x40, .reg false .h 0x30, .reg false .l 0xFF]) .step 16
    (fun t => (t.f, t.reg .b)) = some (0x55, 0x00) := by decide +kernel

theorem test_interrupt_V60_2 : sees (start 65536 .source [] [(0x202, 0x00), (0x203, 0x30)]
    [.pc 0x1234, .im .im2, .i 0x02, .iff1 true, .iff2 true, .sp 0x8000]) (.interrupt 0x02) 19
    (fun t => (t.sp, t.iff1, t.pc)) = some (0x7FFE, false, 0x3000) := by decide +kernel

theorem test_interrupt_V60_4 : sees (start 65536 .source [] []
    [.im .im2, .i 0x02, .iff1 true, .iff2 true, .sp 0x204]) (.interrupt 0x02) 19
    (fun t => (t.sp, t.iff1)) = some (0x202, false) := by decide +kernel

theorem test_nmi_V60_6 : sees (start 65536 .source [] []
    [.iff1 true, .iff2 true, .sp 0x8000]) .nmi 11
    (fun t => (t.sp, t.iff1, t.pc)) = some (0x7FFE, false, 0x66) := by decide +kernel

theorem test_interrupt_V60_10 : sees (start 65536 .source [] []
    [.im .im0, .iff1 true, .iff2 true, .reg false .a 0x41]) (.interrupt 0x3C) 6
    (fun t => (t.reg .a, t.iff1)) = some (0x42, false) := by decide +kernel

theorem test_interrupt_S8_1 : sees (start 65536 .source [] [(0x202, 0x78), (0x203, 0x56)]
    [.pc 0x1234, .im .im2, .i 0x02, .iff1 true, .iff2 true, .sp 0xFFFE]) (.interrupt 0x02) 19
    (fun t => (t.sp, t.iff1, t.pc)) = some (0xFFFC, false, 0x5678) := by decide +kernel

/-- Each way `load` and `interrupt` end in a name (20_memory.md R80; 60_exceptions.md R627): vectors V20.R2, V60.R1,
V60.R2, and V60.R4, where IFF1 = 0 and the same byte is ignored. -/
theorem test_host_events_end_by_name :
    load (some (List.replicate 16 0)) 0x7FF8 (start 32768 .source [] [] []) = .refused .loadOverflow
    ∧ load none 0 State.reset = .fault .ioError
    ∧ interrupt 0xCD (start 65536 .source [] [] [.iff1 true]) = .refused (.im0Data 0xCD)
    ∧ interrupt 0xED (start 65536 .source [] [] [.iff1 true]) = .refused (.im0Data 0xED)
    ∧ interrupt 0xCD State.reset = .next State.reset := by
  refine ⟨rfl, rfl, rfl, rfl, rfl⟩

/-- The host's question: an instruction placed at reset is the next step's. -/
theorem test_placed_instruction_runs :
    sees (State.reset.withFetchWord 16 0x3E42) .step 7 (fun t => (t.reg .a, t.pc)) = some (0x42, 2)
    ∧ sees ((State.reset.setPc 0xFFFE).withFetchWord 24 0xC33412) .step 10 (fun t => t.pc) = some 0x1234 := by
  decide +kernel

/-- POP AF then PUSH AF: vector S2.2, the byte 0x28 back from F, Y and X included (10_state.md R30). -/
theorem test_flag_byte_round_trip :
    (exec (.popQq .af) (start 65536 .source [] [(0x8000, 0x28), (0x8001, 0x5A)] [.sp 0x8000]) matches .next _) = true
    ∧ sees (start 65536 .source [0xF1] [(0x8000, 0x28), (0x8001, 0x5A)] [.sp 0x8000]) .step 10 (fun t => t.af)
      = some 0x5A28 := by decide +kernel

/-! ### A state and operands for the hypotheses of each statement that has some -/

/-- A running core in mode 1 with interrupts enabled, a ROM range at the bottom of memory, and data staged. -/
def busy : State :=
  start 65536 .source [0x12] [(0x0000, 0x3E), (0x2000, 0x7F)]
    [.sp 0x8000, .iff1 true, .im .im1, .reg false .a 0x5A, .reg false .d 0x20, .rom (some (0x0000, 0x00FF)),
     .inSlot 0x10 (some 0x33)]

theorem test_witness_DecodeOfEncode :
    Instr.wf (.prefixIgnored true) = true
    ∧ ∀ fd, Instr.prefixIgnored true = .prefixIgnored fd → ∃ b more, [0x00] = b :: more ∧ affected b = false :=
  ⟨rfl, fun _ _ => ⟨0x00, [], rfl, by decide⟩⟩

theorem test_witness_EncodeOfDecode : decode [0xFD, 0xCB, 0x80, 0xFF, 0x76] = .ok (.setMemIy 7 0x80 (some .a), [0x76]) := by
  decide +kernel

theorem test_witness_StepRunsDecodedInstruction :
    busy.halted = false ∧ decode [busy.codeByte 0, busy.codeByte 1, busy.codeByte 2, busy.codeByte 3]
      = .ok (.ldDeA, [0, 0, 0]) := by decide +kernel

theorem test_witness_HaltedStepCountsRefreshOnly : (start 65536 .source [] [] [.halted true, .r 0xFF]).halted = true := by
  decide +kernel

theorem test_witness_Inv : busy.Inv ∧ (∃ t, step busy = .next t) ∧ ∃ t, perform (.load (some [1, 0]) 0x2000) busy = .next t := by
  refine ⟨?_, ⟨_, rfl⟩, ⟨_, rfl⟩⟩
  unfold State.Inv
  decide +kernel

/-- The two cases of RefreshRegisterCounts: LD R,A, and a count that passes 0x7F with bit 7 kept. -/
theorem test_witness_RefreshRegisterCounts :
    (start 65536 .source [0xED, 0x4F] [] []).fetchInstr = .ldRA
    ∧ sees (start 65536 .source [0xED, 0x4F] [] [.reg false .a 0x80]) .step 9 (fun t => t.regR) = some 0x80
    ∧ sees (start 65536 .source [0xDD, 0x23] [] [.r 0xFF]) .step 10 (fun t => t.regR) = some 0x81 := by decide +kernel

/-- A running step of another instruction, a halted step before an EXX, and primed registers that differ. -/
theorem test_witness_OnlyExchangesReachPrimedRegisters :
    busy.fetchInstr ≠ .exAfAf ∧ busy.fetchInstr ≠ .exx ∧ (∃ t, step busy = .next t)
    ∧ (start 65536 .source [0xD9] [] [.halted true]).halted = true
    ∧ (start 65536 .source [0xD9] [] [.halted true]).fetchInstr = .exx
    ∧ (busy.withPrimed ⟨1, 2, 3, 4, 5, 6, 7, 8⟩).altReg .b = 3 ∧ busy.altReg .b = 0 :=
  ⟨by decide +kernel, by decide +kernel, ⟨_, rfl⟩, by decide +kernel⟩

/-- Each writer of WritersOfControlState changes what it may change. -/
theorem test_witness_WritersOfControlState :
    sees (start 65536 .source [0xED, 0x5E] [] []) .step 8 (fun t => t.im) = some .im2
    ∧ sees (start 65536 .source [0xED, 0x47] [] [.reg false .a 0x3F]) .step 9 (fun t => t.regI) = some 0x3F
    ∧ sees (start 65536 .source [0xFB] [] []) .step 4 (fun t => (t.iff1, t.iff2)) = some (true, true)
    ∧ sees (start 65536 .source [0x76] [] []) .step 4 (fun t => t.halted) = some true := by decide +kernel

/-- Both ends of a ROM range, and a store by the next step to its first byte. -/
theorem test_witness_RomBytesNeverChange :
    let s := start 65536 .source [0x77] [(0x2000, 0x5A)] [.reg false .a 0x99, .reg false .h 0x20, .rom (some (0x2000, 0x2FFF))]
    s.inRom 0x2000 = true ∧ s.inRom 0x2FFF = true ∧ s.inRom 0x1FFF = false ∧ s.inRom 0x3000 = false
    ∧ sees s .step 7 (fun t => t.readByte 0x2000) = some 0x5A := by decide +kernel

/-- The clauses of ByteReadsAndWrites where they meet: the last byte of the array and the one after it, an empty ROM
range, and the ends of a ROM range. -/
theorem test_witness_ByteReadsAndWrites :
    let small := start 32768 .source [] [] []
    let rom := start 65536 .source [] [] [.rom (some (0x2000, 0x2FFF))]
    let empty := start 65536 .source [] [] [.rom (some (0x3000, 0x2000))]
    (small.writeByte 0x7FFF 0x55).readByte 0x7FFF = 0x55 ∧ (small.writeByte 0x8000 0x55).readByte 0x8000 = 0
    ∧ (rom.writeByte 0x2000 0x55).readByte 0x2000 = 0 ∧ (rom.writeByte 0x2FFF 0x55).readByte 0x2FFF = 0
    ∧ (rom.writeByte 0x3000 0x55).readByte 0x3000 = 0x55 ∧ (empty.writeByte 0x2800 0x66).readByte 0x2800 = 0x66 := by
  decide +kernel

/-- Vectors S3.4 and S3.5: a word that wraps round the top of memory. -/
theorem test_witness_WordAccessors :
    State.reset.writable 0xFFFF = true ∧ State.reset.writable (0xFFFF + 1) = true
    ∧ (State.reset.hostWriteWord 0xFFFF 0xABCD).hostReadLeWord 0xFFFF = 0xCDAB := by decide +kernel

theorem test_witness_PushThenPop :
    (State.reset.setSp 1).writable ((State.reset.setSp 1).sp - 1) = true
    ∧ (State.reset.setSp 1).writable ((State.reset.setSp 1).sp - 2) = true := by decide +kernel

/-- The clauses of LoadIsAllOrNothing where they meet: one byte too many (V20.R2) and an exact fit (V20.R3). -/
theorem test_witness_LoadIsAllOrNothing :
    let s := start 32768 .source [] [] []
    s.memSize < (0x7FF8 : Word).toNat + (List.replicate 9 (0x11 : Byte)).length
    ∧ s.memSize ≤ 65536 ∧ (0x7FF8 : Word).toNat + (List.replicate 8 (0x11 : Byte)).length ≤ s.memSize
    ∧ (List.replicate 8 (0x11 : Byte))[7]? = some 0x11
    ∧ sees s (.modify (.i 0)) 0 (fun t => t.memSize) = none := by decide +kernel

/-- 15 + 27 = 42 and 47 - 28 = 19 in decimal digits (vectors V44.1 and V44.2). -/
theorem test_witness_DecimalAdjustIsDecimal :
    ((0x15 : Byte).toNat / 16 ≤ 9 ∧ (0x15 : Byte).toNat % 16 ≤ 9 ∧ (0x27 : Byte).toNat / 16 ≤ 9
      ∧ (0x27 : Byte).toNat % 16 ≤ 9)
    ∧ (daaAdjust (add8 0x15 0x27 false).1 (add8 0x15 0x27 false).2).1 = 0x42
    ∧ (daaAdjust (sub8 0x47 0x28 false).1 (sub8 0x47 0x28 false).2).1 = 0x19 := by decide +kernel

/-- A value staged for a port, and none: `IN` needs neither. -/
theorem test_witness_PortInputAndOutput :
    busy.inSlot 0x10 = some 0x33 ∧ busy.inSlot 0x11 = none
    ∧ sees (start 65536 .source [0xDB, 0x10] [] [.inSlot 0x10 (some 0x33)]) .step 11 (fun t => (t.reg .a, t.draws))
      = some (0x33, 0)
    ∧ sees (start 65536 .source [0xDB, 0x11] [] [.inSlot 0x10 (some 0x33)]) .step 11 (fun t => (t.pc, t.draws))
      = some (0x102, 1) := by decide +kernel

/-- Both branches of the conditional forms (vectors V48.3, V48.19, V48.22 and their opposites are above). -/
theorem test_witness_Conditionals :
    State.reset.cond .nz = true ∧ State.reset.cond .z = false
    ∧ sees (start 65536 .source [0xC2, 0x00, 0x80] [] [.f false 0x40]) .step 10 (fun t => t.pc) = some 0x103
    ∧ sees (start 65536 .source [0xCC, 0x00, 0x20] [] [.sp 0x8000]) .step 10 (fun t => (t.pc, t.sp)) = some (0x103, 0x8000)
    ∧ sees (start 65536 .source [0xC8] [] [.f false 0x40]) .step 11 (fun t => (t.pc, t.sp)) = some (0, 2) := by
  decide +kernel

/-- Block forms that repeat and that end: BC = 2 and BC = 1, B = 2 and B = 1. -/
theorem test_witness_BlockForms :
    sees (start 65536 .source [0xED, 0xB0] [] [.reg false .c 2]) .step 21 (fun t => t.pc) = some 0x100
    ∧ sees (start 65536 .source [0xED, 0xB0] [] [.reg false .c 1]) .step 16 (fun t => t.pc) = some 0x102
    ∧ sees (start 65536 .source [0xED, 0xB1] [] [.reg false .c 2]) .step 16 (fun t => (t.pc, t.flag .z)) = some (0x102, true)
    ∧ sees (start 65536 .source [0xED, 0xB3] [] [.reg false .b 2]) .step 21 (fun t => t.pc) = some 0x100
    ∧ sees (start 65536 .source [0xED, 0xB2] [] [.reg false .b 1]) .step 16 (fun t => t.pc) = some 0x102 := by
  decide +kernel

/-- A state for each clause of MaskableInterrupts, and data bytes at the ends of each: RST 0 and RST 7, the least and the
greatest data byte of mode 2, the prefixes, and one-byte instructions. -/
theorem test_witness_MaskableInterrupts :
    State.reset.iff1 = false ∧ busy.iff1 = true ∧ busy.im = .im1
    ∧ (0xC7 : Byte) = 0b11#2 ++ (0 : BitVec 3) ++ 0b111#3 ∧ (0xFF : Byte) = 0b11#2 ++ (7 : BitVec 3) ++ 0b111#3
    ∧ (lengthOf 0xCD 0 ≠ 1 ∧ lengthOf 0xCB 0 ≠ 1 ∧ lengthOf 0xED 0 ≠ 1 ∧ lengthOf 0xDD 0 = 1)
    ∧ (lengthOf 0x00 0 = 1 ∧ lengthOf 0xFE 0 = 2 ∧ lengthOf 0xFF 0 = 1) := by decide +kernel

theorem test_witness_MaskableInterrupts_im2 :
    sees (start 65536 .source [] [(0x80FF, 0x34), (0x8100, 0x12)] [.iff1 true, .im .im2, .i 0x80, .sp 0x9000])
      (.interrupt 0xFF) 19 (fun t => (t.pc, t.sp)) = some (0x1234, 0x8FFE)
    ∧ sees (start 65536 .source [] [(0x8000, 0x78), (0x8001, 0x56)] [.iff1 true, .im .im2, .i 0x80, .sp 0x9000])
      (.interrupt 0x00) 19 (fun t => t.pc) = some 0x5678 := by decide +kernel

/-- RETN after an NMI (vector V60.7): both stack bytes are writable, and IFF1 and PC come back. -/
theorem test_witness_NonMaskableInterruptAndReturn :
    busy.writable (busy.sp - 1) = true ∧ busy.writable (busy.sp - 2) = true
    ∧ (match nmi busy with
      | .next t => (match exec (.retn 0) t with | .next u => (u.pc, u.iff1) | _ => (0, false))
      | _ => (0, false)) = (0x100, true) := by decide +kernel

/-- The premises inside LoadsOfIndexHalves and IncrementsAndDecrements (another half), RegisterExchanges (a register other
than A), RotatesAndShifts and BitSetsAndResets (a register copy), and LoadIsAllOrNothing (a place the load leaves alone). -/
theorem test_witness_local_premises :
    Half.lo ≠ .hi ∧ Reg8.l ≠ .a ∧ (some Reg8.b = some .b)
    ∧ (∀ k, k < 1 → Loc.mem 0x2001 ≠ .mem (0x2000 + BitVec.ofNat 16 k))
    ∧ ∀ k, k < 1 → Loc.pc ≠ .mem (0x2000 + BitVec.ofNat 16 k) := by
  refine ⟨by decide, by decide, rfl, fun k hk => ?_, fun _ _ => nofun⟩
  obtain rfl : k = 0 := by omega
  decide

end Sys2Proof.Tests
end

section
/-! SUPPORT. Signed overflow of an addition with carry and of a subtraction with borrow, at every width: the sign test of
10_state.md R33, R34 and R38 says that the exact sum or difference leaves the signed range. -/

namespace Sys2Proof.Machine

/-- The sign of a number reduced to the signed range from -M to M - 1, for a number at most one turn outside it. -/
theorem bmod_neg_iff {M : Nat} {n : Int} (hlo : -(2 * M : Int) ≤ n) (hhi : n < 2 * M) :
    n.bmod (2 * M) < 0 ↔ (-(M : Int) ≤ n ∧ n < 0) ∨ (M : Int) ≤ n := by
  have inRange : ∀ m : Int, -(M : Int) ≤ m → m < M → m.bmod (2 * M) = m := fun m h h' =>
    Int.bmod_eq_of_le (by omega) (by omega)
  rcases lt_or_ge n (-(M : Int)) with h | h
  · rw [← Int.add_bmod_right, inRange _ (by omega) (by omega)]; omega
  rcases lt_or_ge n (M : Int) with h' | h'
  · rw [inRange _ h h']; omega
  · rw [← Int.sub_bmod_right, inRange _ (by omega) (by omega)]; omega

theorem bitNat_le_one (c : Bool) : bitNat c ≤ 1 := by cases c <;> decide

variable {w : Nat} (a b r : BitVec (w + 1)) (c : Bool)

/-- The top bit is the sign. -/
theorem getLsbD_top : r.getLsbD w = decide (r.toInt < 0) := by
  rw [← BitVec.msb_eq_toInt, BitVec.msb_eq_getLsbD_last, Nat.add_sub_cancel]

theorem getLsbD_top_iff : r.getLsbD w = true ↔ r.toInt < 0 := by rw [getLsbD_top, decide_eq_true_iff]

theorem toInt_bounds : -((2 ^ w : Nat) : Int) ≤ r.toInt ∧ r.toInt < ((2 ^ w : Nat) : Int) := by
  have hlo := r.le_toInt
  have hhi := r.toInt_lt
  rw [Nat.add_sub_cancel] at hlo hhi
  exact_mod_cast And.intro hlo hhi

/-- The sum narrowed to the width, as the signed sum reduced to the signed range. -/
theorem toInt_narrowed_sum : (BitVec.ofNat (w + 1) (a.toNat + b.toNat + bitNat c)).toInt
    = (a.toInt + b.toInt + bitNat c).bmod (2 * 2 ^ w) := by
  rw [BitVec.toInt_ofNat', a.toInt_eq_toNat_bmod, b.toInt_eq_toNat_bmod, ← Nat.pow_succ', add_assoc (Int.bmod _ _),
    Int.bmod_add_bmod, add_left_comm, Int.bmod_add_bmod]
  push_cast
  ring_nf

/-- The difference narrowed to the width, as the signed difference reduced to the signed range. -/
theorem toInt_narrowed_difference : (BitVec.ofInt (w + 1) ((a.toNat : Int) - b.toNat - bitNat c)).toInt
    = (a.toInt - b.toInt - bitNat c).bmod (2 * 2 ^ w) := by
  rw [BitVec.toInt_ofInt, a.toInt_eq_toNat_bmod, b.toInt_eq_toNat_bmod, ← Nat.pow_succ', sub_right_comm (Int.bmod _ _),
    Int.sub_bmod_bmod, sub_sub, sub_sub, Int.bmod_sub_bmod, add_comm (bitNat c : Int)]

/-- Equal signs of the operands and another sign of the result: the exact sum is out of range (R33, R38). -/
theorem add_overflow_iff :
    let r := BitVec.ofNat (w + 1) (a.toNat + b.toNat + bitNat c)
    (a.getLsbD w == b.getLsbD w && r.getLsbD w != a.getLsbD w) = true ↔
      a.toInt + b.toInt + bitNat c < -((2 ^ w : Nat) : Int) ∨ ((2 ^ w : Nat) : Int) ≤ a.toInt + b.toInt + bitNat c := by
  have ha := toInt_bounds a
  have hb := toInt_bounds b
  have hc := bitNat_le_one c
  simp only [getLsbD_top, toInt_narrowed_sum]
  generalize 2 ^ w = M at *
  have hsign := bmod_neg_iff (M := M) (n := a.toInt + b.toInt + bitNat c) (by omega) (by omega)
  simp only [hsign, Bool.and_eq_true, beq_iff_eq, bne_iff_ne, ne_eq, decide_eq_decide]
  omega

/-- Unequal signs of the operands and a result of another sign than the first: the exact difference is out of range
(R34, R38). -/
theorem sub_overflow_iff :
    let r := BitVec.ofInt (w + 1) ((a.toNat : Int) - b.toNat - bitNat c)
    (a.getLsbD w != b.getLsbD w && r.getLsbD w != a.getLsbD w) = true ↔
      a.toInt - b.toInt - bitNat c < -((2 ^ w : Nat) : Int) ∨ ((2 ^ w : Nat) : Int) ≤ a.toInt - b.toInt - bitNat c := by
  have ha := toInt_bounds a
  have hb := toInt_bounds b
  have hc := bitNat_le_one c
  simp only [getLsbD_top, toInt_narrowed_difference]
  generalize 2 ^ w = M at *
  have hsign := bmod_neg_iff (M := M) (n := a.toInt - b.toInt - bitNat c) (by omega) (by omega)
  simp only [hsign, Bool.and_eq_true, bne_iff_ne, ne_eq, decide_eq_decide]
  omega

end Sys2Proof.Machine
end


section
/-! SUPPORT and the obligations about the flag computations: Add8 and Sub8, the logical class, INC and DEC, the 16-bit
functions (10_state.md R32 to R38). -/

namespace Sys2Proof.Machine

/-- Settles O21: carry and half carry compare exact sums and differences, and overflow is the sign test of
`add_overflow_iff` and `sub_overflow_iff` at eight bits. -/
theorem addSubtractFlags : Obligations.AddSubtractFlags := by
  intro a b c
  have ha := a.isLt
  have hb := b.isLt
  have hc := bitNat_le_one c
  constructor
  · exact ⟨BitVec.toNat_ofNat _ _, decide_eq_true_iff, decide_eq_true_iff, add_overflow_iff a b c, beq_iff_eq,
      getLsbD_top_iff _, rfl, rfl, rfl⟩
  · refine ⟨?result, decide_eq_true_iff.trans ?carry, decide_eq_true_iff.trans ?half, sub_overflow_iff a b c,
      beq_iff_eq, getLsbD_top_iff _, rfl, rfl, rfl⟩
    case result => simp only [sub8, BitVec.toNat_ofInt]; omega
    case carry => omega
    case half => omega

/-- Settles O23: as for Add8 and Sub8, at sixteen bits; Add16 is the sum without a carry under each profile. -/
theorem sixteenBitFlags : Obligations.SixteenBitFlags := by
  intro a b c old
  have ha := a.isLt
  have hb := b.isLt
  have hc := bitNat_le_one c
  refine ⟨rfl, rfl, ?adc, ?sbc⟩
  case adc =>
    exact ⟨BitVec.toNat_ofNat _ _, decide_eq_true_iff, decide_eq_true_iff, add_overflow_iff a b c, beq_iff_eq,
      getLsbD_top_iff _, rfl, rfl, rfl⟩
  case sbc =>
    refine ⟨?result, decide_eq_true_iff.trans ?carry, decide_eq_true_iff.trans ?half, sub_overflow_iff a b c,
      beq_iff_eq, getLsbD_top_iff _, rfl, rfl, rfl⟩
    case result => simp only [sbc16, BitVec.toNat_ofInt]; omega
    case carry => omega
    case half => omega

/-- Parity counts the bits of the number that R32 counts. -/
theorem parity_iff (r : Byte) :
    parity r = true ↔ (List.range 8).countP (fun k => decide (r.toNat / 2 ^ k % 2 = 1)) % 2 = 0 := by
  simp only [parity, beq_iff_eq, BitVec.getLsbD, Nat.testBit_eq_decide_div_mod_eq]
  rfl

/-- INC is Add8 of 1 with C kept: it overflows from 0x7F alone and carries out of a low digit of 15 (R37). -/
theorem inc8_eq_add8 (v : Byte) (old : Flags) :
    inc8 v old = ((add8 v 1 false).1, { (add8 v 1 false).2 with c := old.c }) := by
  have hv := toInt_bounds v
  have hpv : (v == 0x7F) = (add8 v 1 false).2.pv := by
    rw [Bool.eq_iff_iff, beq_iff_eq, ← BitVec.toInt_inj]
    refine Iff.trans ?_ (add_overflow_iff v 1 false).symm
    show v.toInt = 127 ↔ v.toInt + 1 + 0 < -128 ∨ 128 ≤ v.toInt + 1 + 0
    omega
  have hh : (v.toNat % 16 == 15) = (add8 v 1 false).2.h :=
    decide_eq_decide.mpr (show v.toNat % 16 = 15 ↔ 15 < v.toNat % 16 + 1 + 0 by omega)
  rw [inc8, hpv, hh]
  rfl

/-- DEC is Sub8 of 1 with C kept: it overflows from 0x80 alone and borrows into a low digit of 0 (R37). -/
theorem dec8_eq_sub8 (v : Byte) (old : Flags) :
    dec8 v old = ((sub8 v 1 false).1, { (sub8 v 1 false).2 with c := old.c }) := by
  have hv := toInt_bounds v
  have hresult : (v.toNat : Int) - 1 = v.toNat - (1 : Byte).toNat - bitNat false := (sub_zero _).symm
  have hpv : (v == 0x80) = (sub8 v 1 false).2.pv := by
    rw [Bool.eq_iff_iff, beq_iff_eq, ← BitVec.toInt_inj]
    refine Iff.trans ?_ (sub_overflow_iff v 1 false).symm
    show v.toInt = -128 ↔ v.toInt - 1 - 0 < -128 ∨ 128 ≤ v.toInt - 1 - 0
    omega
  have hh : (v.toNat % 16 == 0) = (sub8 v 1 false).2.h :=
    decide_eq_decide.mpr (show v.toNat % 16 = 0 ↔ ((v.toNat % 16 : Nat) : Int) - 1 - 0 < 0 by omega)
  rw [dec8, hpv, hh, hresult]
  rfl

/-- Settles O22. -/
theorem logicAndIncrementFlags : Obligations.LogicAndIncrementFlags :=
  ⟨parity_iff, fun _ _ => ⟨rfl, rfl, rfl⟩, fun v old => ⟨inc8_eq_add8 v old, dec8_eq_sub8 v old⟩⟩

end Sys2Proof.Machine
end

section
/-! SUPPORT and the obligations about creation, the condition codes and the flag byte (10_state.md R29, R30, R40, R49). -/

namespace Sys2Proof.Machine

/-- Settles O10: memory and the slots are empty at creation, and MEM_SIZE is its default. -/
theorem resetIsCanonical : Obligations.ResetIsCanonical := by
  refine ⟨rfl, rfl, rfl, rfl, ?_, ?_⟩ <;> decide

/-- Memory at creation lists no byte, so every address reads as unlisted (R49). -/
theorem reset_readByte (a : Word) : State.reset.readByte a = 0 := ite_self _

/-- Settles O11. -/
theorem creationValues : Obligations.CreationValues := by
  refine ⟨fun r => ?registers, rfl, rfl, rfl, rfl, rfl, rfl, rfl, rfl, rfl, rfl, rfl, rfl, rfl, rfl, rfl,
    reset_readByte, fun _ => ⟨rfl, rfl⟩⟩
  case registers => cases r <;> exact ⟨rfl, rfl⟩

/-- Settles O27: each code is one row of `Flags.holds`. -/
theorem conditionCodes : Obligations.ConditionCodes := fun _ => ⟨rfl, rfl, rfl, rfl, rfl, rfl, rfl, rfl⟩

/-- To-byte after from-byte, for each of the 256 bytes (R30). -/
@[simp] theorem Flags.toByte_ofByte : ∀ v : Byte, (Flags.ofByte v).toByte = v := by decide

variable (s : State)

@[simp] theorem State.push16_reg (v : Word) (r : Reg8) : (s.push16 v).reg r = s.reg r := by
  simp [State.push16, State.pushByte]

@[simp] theorem State.push16_f (v : Word) : (s.push16 v).f = s.f := by simp [State.push16, State.pushByte]

@[simp] theorem State.push16_af (v : Word) : (s.push16 v).af = s.af := by simp [State.af]

/-- A byte write of what the address reads already changes no byte (20_memory.md R73). -/
theorem State.stored_readByte (a : Word) : s.stored a (s.readByte a) = s.readByte a := ite_self _

/-- The popped word pushed again where SP and memory are as the pop left them writes each stack byte over itself
(20_memory.md R88, R89). -/
theorem State.push16_top_readByte {t : State} (hsp : t.sp = s.sp + 2) (hread : ∀ a, t.readByte a = s.readByte a)
    (a : Word) : (t.push16 s.top).readByte a = s.readByte a := by
  have hlo : s.sp + 2 - 2 = s.sp := by bv_omega
  have hhi : s.sp + 2 - 1 = s.sp + 1 := by bv_omega
  rw [State.push16_readByte, hsp, hlo, hhi]
  split
  · next h => rw [State.top, loByte_join, h, ← hread, State.stored_readByte]
  split
  · next h => rw [State.top, hiByte_join, h, ← hread, State.stored_readByte]
  · exact hread a

/-- POP AF then PUSH AF changes A and F only: SP comes back and each stack byte is written over itself. -/
theorem popAf_pushAf_frame :
    s.SameBut (.reg .a :: Loc.flags) ((s.dropTop.setAf s.top).push16 s.top) := by
  set t := s.dropTop.setAf s.top with ht
  have hsp : t.sp = s.sp + 2 := by simp [ht, State.setAf, State.dropTop]
  have hread : ∀ a, t.readByte a = s.readByte a := by simp [ht, State.setAf, State.dropTop]
  have hframe := ((s.setSp_frame _).trans (s.dropTop.setStackPair_frame .af s.top)).trans (t.push16_frame s.top)
  intro l hl
  cases l with
  | sp => show (t.push16 s.top).sp = s.sp; rw [State.push16_sp, hsp]; bv_omega
  | mem a => exact s.push16_top_readByte hsp hread a
  | _ => exact hframe _ (by simpa [Loc.stackPair] using hl)

/-- Settles O20: bit by bit for the byte, and A and F are what POP AF loaded. -/
theorem flagByteRoundTrip : Obligations.FlagByteRoundTrip := by
  refine ⟨Flags.toByte_ofByte, fun s => ⟨_, _, rfl, rfl, ?_, ?_⟩⟩
  · exact (State.push16_af _ _).trans (State.setAf_af _ _)
  · rw [State.setStackPair_stackPair]
    exact popAf_pushAf_frame s

end Sys2Proof.Machine
end

section
/-! SUPPORT. The control part of the state: the fields that only a few instructions write, and what every instruction does
to it. One lemma per shared operation, then one per instruction, then one for the step. -/

namespace Sys2Proof.Machine

/-- The control part: the selectors (10_state.md R22), I and R (R41, R42), the flip-flops, IM and the halt latch (R43 to
R45), the ROM range and the input slots (20_memory.md R74, R86), and the two parameters of creation. -/
structure Control where
  selAf : Bool
  selGp : Bool
  regI : Byte
  regR : Byte
  iff1 : Bool
  iff2 : Bool
  im : IntMode
  halted : Bool
  rom : Option (Word × Word)
  inSlots : Slots
  memSize : Nat
  flagsProfile : FlagsProfile

/-- The control part of a state. -/
def State.control (s : State) : Control :=
  ⟨s.selAf, s.selGp, s.regI, s.regR, s.iff1, s.iff2, s.im, s.halted, s.rom, s.inSlots, s.memSize, s.flagsProfile⟩

variable (s : State)

/-! ### The operations that leave the control part -/

@[simp] theorem State.setReg_control (r : Reg8) (v : Byte) : (s.setReg r v).control = s.control := by
  simp [State.control]
@[simp] theorem State.setF_control (v : Byte) : (s.setF v).control = s.control := by simp [State.control]
@[simp] theorem State.setFlags_control (fl : Flags) : (s.setFlags fl).control = s.control := by simp [State.control]
@[simp] theorem State.setIx_control (v : Word) : (s.setIx v).control = s.control := rfl
@[simp] theorem State.setIy_control (v : Word) : (s.setIy v).control = s.control := rfl
@[simp] theorem State.setSp_control (v : Word) : (s.setSp v).control = s.control := rfl
@[simp] theorem State.setPc_control (v : Word) : (s.setPc v).control = s.control := rfl
@[simp] theorem State.writeByte_control (a : Word) (v : Byte) : (s.writeByte a v).control = s.control := by
  simp [State.control]
@[simp] theorem State.ioRead_control (p : Word) : (s.ioRead p).control = s.control := by simp [State.control]
@[simp] theorem State.ioWrite_control (p : Word) (v : Byte) : (s.ioWrite p v).control = s.control := rfl
@[simp] theorem State.setIndex_control (k : Index) (v : Word) : (s.setIndex k v).control = s.control := by
  cases k <;> rfl
@[simp] theorem State.setHalf_control (k : Index) (g : Half) (v : Byte) : (s.setHalf k g v).control = s.control := by
  cases g <;> exact State.setIndex_control ..
@[simp] theorem State.setBc_control (v : Word) : (s.setBc v).control = s.control := by simp [State.setBc]
@[simp] theorem State.setDe_control (v : Word) : (s.setDe v).control = s.control := by simp [State.setDe]
@[simp] theorem State.setHl_control (v : Word) : (s.setHl v).control = s.control := by simp [State.setHl]
@[simp] theorem State.setAf_control (v : Word) : (s.setAf v).control = s.control := by simp [State.setAf]
@[simp] theorem State.setPair_control (p : Pair) (v : Word) : (s.setPair p v).control = s.control := by
  cases p <;> simp [State.setPair]
@[simp] theorem State.setStackPair_control (p : StackPair) (v : Word) : (s.setStackPair p v).control = s.control := by
  cases p <;> simp [State.setStackPair]
@[simp] theorem State.copyTo_control (z : Option Reg8) (v : Byte) : (s.copyTo z v).control = s.control := by
  cases z <;> simp [State.copyTo]
@[simp] theorem State.putReg_control (r : Reg8) (res : Byte × Flags) : (s.putReg r res).control = s.control := by
  simp [State.putReg]
@[simp] theorem State.putMem_control (a : Word) (res : Byte × Flags) : (s.putMem a res).control = s.control := by
  simp [State.putMem]
@[simp] theorem State.putHalf_control (k : Index) (g : Half) (res : Byte × Flags) :
    (s.putHalf k g res).control = s.control := by simp [State.putHalf]
@[simp] theorem State.putHl_control (res : Word × Flags) : (s.putHl res).control = s.control := by simp [State.putHl]
@[simp] theorem State.putIndex_control (k : Index) (res : Word × Flags) :
    (s.putIndex k res).control = s.control := by simp [State.putIndex]
@[simp] theorem State.writeWord_control (a v : Word) : (s.writeWord a v).control = s.control := by
  simp [State.writeWord]
@[simp] theorem State.push16_control (v : Word) : (s.push16 v).control = s.control := by
  simp [State.push16, State.pushByte]
@[simp] theorem State.dropTop_control : s.dropTop.control = s.control := rfl
@[simp] theorem State.call_control (target : Word) : (s.call target).control = s.control := by simp [State.call]
@[simp] theorem State.ret_control : s.ret.control = s.control := rfl
@[simp] theorem State.jumpRelative_control (e : Byte) : (s.jumpRelative e).control = s.control := rfl
@[simp] theorem State.repeatIf_control (again : Bool) : (s.repeatIf again).control = s.control := by
  cases again <;> rfl
@[simp] theorem State.alu_control (op : AluOp) (v : Byte) : (s.alu op v).control = s.control := by
  cases op <;> simp [State.alu]
@[simp] theorem State.blockMove_control (dir : Direction) : (s.blockMove dir).control = s.control := by
  simp [State.blockMove]
@[simp] theorem State.blockCompare_control (dir : Direction) : (s.blockCompare dir).control = s.control := by
  simp [State.blockCompare]
@[simp] theorem State.blockIn_control (dir : Direction) : (s.blockIn dir).control = s.control := by
  simp [State.blockIn]
@[simp] theorem State.blockOut_control (dir : Direction) : (s.blockOut dir).control = s.control := by
  simp [State.blockOut]
@[simp] theorem State.rotAcc_control (op : RotOp) : (s.rotAcc op).control = s.control := by simp [State.rotAcc]
@[simp] theorem State.rotMem_control (op : RotOp) (a : Word) (z : Option Reg8) :
    (s.rotMem op a z).control = s.control := by simp [State.rotMem]
@[simp] theorem State.rotDigits_control (hi lo acc : BitVec 4) : (s.rotDigits hi lo acc).control = s.control := by
  simp [State.rotDigits]
@[simp] theorem State.putBit_control (a : Word) (b : BitVec 3) (x : Bool) (z : Option Reg8) :
    (s.putBit a b x z).control = s.control := by simp [State.putBit]
@[simp] theorem State.loadIr_control (v : Byte) : (s.loadIr v).control = s.control := by simp [State.loadIr]

/-- The control part of a conditional instruction's result. -/
@[simp] theorem State.ite_control (c : Prop) [Decidable c] (t u : State) :
    (if c then t else u).control = if c then t.control else u.control := apply_ite ..

/-! ### What an instruction does to the control part -/

/-- The control part an instruction leaves: the twelve instructions that write it, each by its rule (10_state.md R22,
R41 to R45; 48_jump_call_return.md R552, R553), and every other one leaves it. -/
def State.controlAfter (s : State) (i : Instr) : Control :=
  match i with
  | .ldIA => { s.control with regI := s.reg .a }
  | .ldRA => { s.control with regR := s.reg .a }
  | .exAfAf => { s.control with selAf := !s.selAf }
  | .exx => { s.control with selGp := !s.selGp }
  | .halt => { s.control with halted := true }
  | .di => { s.control with iff1 := false, iff2 := false }
  | .ei => { s.control with iff1 := true, iff2 := true }
  | .im0 _ _ => { s.control with im := .im0 }
  | .im1 _ => { s.control with im := .im1 }
  | .im2 _ => { s.control with im := .im2 }
  | .reti | .retn _ => { s.control with iff1 := s.iff2 }
  | _ => s.control

/-- Every instruction that completes leaves the control part `State.controlAfter` gives it. -/
theorem exec_control {i : Instr} {s t : State} (h : exec i s = .next t) : t.control = s.controlAfter i := by
  cases i <;> cases h
  case ldIA | ldRA | exAfAf | exx | halt | di | ei | im0 | im1 | im2 | reti | retn => rfl
  all_goals simp [State.controlAfter]

end Sys2Proof.Machine
end

section
/-! SUPPORT and the obligations about what a step does to R, to the primed registers and to the control state (10_state.md
R21 to R23, R41 to R45; 30_encoding.md R130 to R132). -/

namespace Sys2Proof.Machine

/-- What a step that ends in a next state was: the halted step, or the instruction at PC run on the state after its fetch
(30_encoding.md R130, R132). -/
theorem step_cases {s t : State} (h : step s = .next t) :
    (s.halted = true ∧ t = s.haltedStep)
      ∨ (s.halted = false ∧ exec s.fetchInstr (s.afterFetch s.fetchInstr) = .next t) := by
  unfold step at h
  split at h
  · next hs => cases h; exact .inl ⟨hs, rfl⟩
  · next hs => exact .inr ⟨Bool.eq_false_iff.mpr hs, h⟩

theorem step_of_halted {s : State} (h : s.halted = true) : step s = .next s.haltedStep := if_pos h

theorem step_of_running {s : State} (h : s.halted = false) :
    step s = exec s.fetchInstr (s.afterFetch s.fetchInstr) := if_neg (Bool.eq_false_iff.mp h)

/-! ### The refresh register -/

/-- `n` increments of R: bit 7 stays, and the low seven bits count modulo 128 (R42). -/
theorem refreshAfter_counts (r : Byte) (n : Nat) :
    (refreshAfter r n).getLsbD 7 = r.getLsbD 7 ∧ (refreshAfter r n).toNat % 128 = (r.toNat + n) % 128 := by
  constructor
  · exact BitVec.getLsbD_append.trans (by simp)
  · rw [refreshAfter, BitVec.toNat_append, Nat.shiftLeft_eq, mul_comm, ← Nat.two_pow_add_eq_or_of_lt (BitVec.isLt _)]
    simp

/-- Only LD R,A writes R itself (40_load8.md R220). -/
theorem State.controlAfter_regR (s : State) (i : Instr) :
    (s.controlAfter i).regR = if i = .ldRA then s.reg .a else s.regR := by
  unfold State.controlAfter
  split <;> simp_all [State.control]

/-- Settles O12: the fetch counts its cycles on R, and the instruction leaves R unless it is LD R,A. -/
theorem refreshRegisterCounts : Obligations.RefreshRegisterCounts := by
  intro s t h
  rcases step_cases h with ⟨hs, rfl⟩ | ⟨hs, hexec⟩
  · rw [if_neg (by simp [hs]), if_pos hs]
    exact refreshAfter_counts s.regR 1
  · have hR : t.regR = _ := (congrArg Control.regR (exec_control hexec)).trans (State.controlAfter_regR _ _)
    by_cases hi : s.fetchInstr = .ldRA
    · rw [if_pos ⟨hs, hi⟩, hR, if_pos hi]
      rfl
    · rw [if_neg fun hand => hi hand.2, if_neg (by simp [hs]), hR, if_neg hi]
      exact refreshAfter_counts s.regR (fetchCycles s.fetchInstr)

/-! ### The primed registers -/

theorem next_congr {t u : State} (h : t = u) : (.next t : Result) = .next u := congrArg _ h

@[simp] theorem State.ite_withPrimed (c : Prop) [Decidable c] (t u : State) (k : Bank) :
    (if c then t else u).withPrimed k = if c then t.withPrimed k else u.withPrimed k :=
  apply_ite (State.withPrimed · k) ..

/-- Every instruction but EX AF,AF' and EXX does the same with other primed registers, and carries them through
(10_state.md R21, R23). -/
theorem exec_withPrimed {i : Instr} {s t : State} (hAf : i ≠ .exAfAf) (hGp : i ≠ .exx) (k : Bank)
    (h : exec i s = .next t) : exec i (s.withPrimed k) = .next (t.withPrimed k) := by
  cases i <;> cases h
  case exAfAf => exact absurd rfl hAf
  case exx => exact absurd rfl hGp
  all_goals
    refine next_congr ?_
    simp

/-- The primed registers as a bank (10_state.md R21). -/
def State.primed (s : State) : Bank :=
  ⟨s.altReg .a, s.altF, s.altReg .b, s.altReg .c, s.altReg .d, s.altReg .e, s.altReg .h, s.altReg .l⟩

@[simp] theorem State.primed_get (s : State) (r : Reg8) : s.primed.get r = s.altReg r := by cases r <;> rfl

/-- The primed registers a state has already are no others. -/
@[simp] theorem State.withPrimed_primed (s : State) : s.withPrimed s.primed = s := by
  rcases s with ⟨_, _, sa, sg⟩; cases sa <;> cases sg <;> rfl

/-- A halted step and every step but that of EX AF,AF' or EXX carry any other primed registers through. -/
theorem step_withPrimed {s t : State} (h : step s = .next t)
    (hi : s.halted = true ∨ (s.fetchInstr ≠ .exAfAf ∧ s.fetchInstr ≠ .exx)) (k : Bank) :
    step (s.withPrimed k) = .next (t.withPrimed k) := by
  rcases step_cases h with ⟨hs, rfl⟩ | ⟨hs, hexec⟩
  · rw [step_of_halted (by simpa using hs), State.withPrimed_haltedStep]
  · obtain ⟨hAf, hGp⟩ := hi.resolve_left (by simp [hs])
    rw [step_of_running (by simpa using hs), State.withPrimed_fetchInstr, State.withPrimed_afterFetch]
    exact exec_withPrimed hAf hGp k hexec

/-- Only EX AF,AF' and EXX write a selector (10_state.md R22). -/
theorem State.controlAfter_selectors (s : State) {i : Instr} (hAf : i ≠ .exAfAf) (hGp : i ≠ .exx) :
    (s.controlAfter i).selAf = s.selAf ∧ (s.controlAfter i).selGp = s.selGp := by
  unfold State.controlAfter
  split <;> simp_all [State.control]

/-- Settles O13: a step carries any other primed registers through, and with those the state has already this says that
they are not changed. -/
theorem onlyExchangesReachPrimedRegisters : Obligations.OnlyExchangesReachPrimedRegisters := by
  intro s t h hi
  have hcarry := step_withPrimed h hi
  have hsame : t = t.withPrimed s.primed := by
    have := hcarry s.primed
    rw [State.withPrimed_primed, h] at this
    exact Host.Outcome.next.inj this
  have hreg (r : Reg8) : t.altReg r = s.altReg r := by rw [hsame]; simp
  have hF : t.altF = s.altF := by rw [hsame]; exact State.withPrimed_altF _ _
  refine ⟨hreg, hF, ?_⟩
  rcases step_cases h with ⟨hs, rfl⟩ | ⟨hs, hexec⟩
  · exact ⟨rfl, rfl, hcarry⟩
  · obtain ⟨hAf, hGp⟩ := hi.resolve_left (by simp [hs])
    obtain ⟨hselAf, hselGp⟩ := (s.afterFetch s.fetchInstr).controlAfter_selectors hAf hGp
    rw [← exec_control hexec] at hselAf hselGp
    exact ⟨hselAf, hselGp, hcarry⟩

/-! ### The writers of the control state -/

/-- Which instructions write IM, I, the flip-flops and the halt latch, and what none writes. -/
theorem State.controlAfter_writers (s : State) (i : Instr) :
    ((s.controlAfter i).im = s.im ∨ (∃ m k, i = .im0 m k) ∨ (∃ m, i = .im1 m) ∨ ∃ m, i = .im2 m)
    ∧ ((s.controlAfter i).regI = s.regI ∨ i = .ldIA)
    ∧ (((s.controlAfter i).iff1 = s.iff1 ∧ (s.controlAfter i).iff2 = s.iff2) ∨ i = .di ∨ i = .ei ∨ i = .reti
      ∨ ∃ m, i = .retn m)
    ∧ ((s.controlAfter i).halted = s.halted ∨ i = .halt)
    ∧ (s.controlAfter i).rom = s.rom ∧ (s.controlAfter i).memSize = s.memSize
    ∧ (s.controlAfter i).flagsProfile = s.flagsProfile ∧ (s.controlAfter i).inSlots = s.inSlots := by
  unfold State.controlAfter
  split <;> simp [State.control]

/-- Settles O14: the fetch writes PC and R only, so the writers are those of `State.controlAfter`. -/
theorem writersOfControlState : Obligations.WritersOfControlState := by
  intro s t h
  rcases step_cases h with ⟨-, rfl⟩ | ⟨-, hexec⟩
  · simp [State.haltedStep]
  · have hw := (s.afterFetch s.fetchInstr).controlAfter_writers s.fetchInstr
    rw [← exec_control hexec] at hw
    exact hw

end Sys2Proof.Machine
end

section
/-! SUPPORT and the obligations about what a step does to the stored data: it writes memory only through byte writes, under
the rule of 20_memory.md R73, and the slots only through port writes (R85). -/

namespace Sys2Proof.Machine

/-- The stored data: memory with its size and ROM range (20_memory.md R70, R74) and the I/O slots (10_state.md R46). -/
structure Data where
  mem : Memory
  memSize : Nat
  rom : Option (Word × Word)
  outSlots : Slots
  inSlots : Slots

/-- The stored data of a state. -/
def State.data (s : State) : Data := ⟨s.mem, s.memSize, s.rom, s.outSlots, s.inSlots⟩

theorem State.readByte_of_data_eq {s t : State} (h : t.data = s.data) (a : Word) : t.readByte a = s.readByte a := by
  have hmem : t.mem = s.mem := congrArg Data.mem h
  have hsize : t.memSize = s.memSize := congrArg Data.memSize h
  rw [State.readByte, hmem, hsize, State.readByte]

theorem State.inRom_of_data_eq {s t : State} (h : t.data = s.data) (a : Word) : t.inRom a = s.inRom a := by
  have hrom : t.rom = s.rom := congrArg Data.rom h
  rw [State.inRom, hrom, State.inRom]

theorem State.inv_of_data_eq {s t : State} (h : t.data = s.data) (hs : s.Inv) : t.Inv := by
  simp only [State.data, Data.mk.injEq] at h
  obtain ⟨hmem, hsize, -, hout, hin⟩ := h
  rwa [State.Inv, hmem, hsize, hout, hin]

/-- From `s`, byte writes and port writes lead to `t`, with any changes outside the stored data before, between and after
them. -/
inductive State.Stores (s : State) : State → Prop
  | refl : s.Stores s
  | outside {t u : State} (h : s.Stores t) (hdata : u.data = t.data) : s.Stores u
  | writeByte {t : State} (h : s.Stores t) (a : Word) (v : Byte) : s.Stores (t.writeByte a v)
  | ioWrite {t : State} (h : s.Stores t) (p : Word) (v : Byte) : s.Stores (t.ioWrite p v)

namespace State.Stores

/-! ### What byte writes and port writes keep -/

variable {s t : State}

theorem keeps_inv (h : s.Stores t) (hs : s.Inv) : t.Inv := by
  induction h with
  | refl => exact hs
  | outside _ hdata ih => exact State.inv_of_data_eq hdata ih
  | writeByte _ a v ih => exact State.writeByte_inv _ a v ih
  | ioWrite _ p v ih => exact State.ioWrite_inv _ p v ih

theorem keeps_inRom (h : s.Stores t) (a : Word) : t.inRom a = s.inRom a := by
  induction h with
  | refl => rfl
  | outside _ hdata ih => exact (State.inRom_of_data_eq hdata a).trans ih
  | writeByte _ b v ih => rw [← ih]; simp [State.inRom]
  | ioWrite _ p v ih => exact ih

/-- A byte write inside the ROM range is dropped, so the bytes there stay (20_memory.md R73). -/
theorem keeps_rom_bytes (h : s.Stores t) {a : Word} (ha : s.inRom a = true) : t.readByte a = s.readByte a := by
  induction h with
  | refl => rfl
  | outside _ hdata ih =>
    exact (State.readByte_of_data_eq hdata a).trans ih
  | @writeByte t h b v ih =>
    have hdropped : t.writable a = false := by simp [State.writable, h.keeps_inRom, ha]
    rw [← ih, State.writeByte_readByte, if_neg]
    rintro ⟨rfl, hb⟩
    simp [hdropped] at hb
  | ioWrite _ p v ih => exact ih

/-! ### The operations that write nothing stored -/

@[simp] theorem setReg (h : s.Stores t) (r : Reg8) (v : Byte) : s.Stores (t.setReg r v) :=
  h.outside (by simp [State.data])
@[simp] theorem setF (h : s.Stores t) (v : Byte) : s.Stores (t.setF v) := h.outside (by simp [State.data])
@[simp] theorem setFlags (h : s.Stores t) (fl : Flags) : s.Stores (t.setFlags fl) := h.setF _
@[simp] theorem setIndex (h : s.Stores t) (k : Index) (v : Word) : s.Stores (t.setIndex k v) :=
  h.outside (by cases k <;> rfl)
@[simp] theorem setIx (h : s.Stores t) (v : Word) : s.Stores (t.setIx v) := h.outside rfl
@[simp] theorem setIy (h : s.Stores t) (v : Word) : s.Stores (t.setIy v) := h.outside rfl
@[simp] theorem setHalf (h : s.Stores t) (k : Index) (g : Half) (v : Byte) : s.Stores (t.setHalf k g v) := by
  cases g <;> exact h.setIndex k _
@[simp] theorem setSp (h : s.Stores t) (v : Word) : s.Stores (t.setSp v) := h.outside rfl
@[simp] theorem setPc (h : s.Stores t) (v : Word) : s.Stores (t.setPc v) := h.outside rfl
@[simp] theorem setI (h : s.Stores t) (v : Byte) : s.Stores (t.setI v) := h.outside rfl
@[simp] theorem setR (h : s.Stores t) (v : Byte) : s.Stores (t.setR v) := h.outside rfl
@[simp] theorem setIff (h : s.Stores t) (a b : Bool) : s.Stores (t.setIff a b) := h.outside rfl
@[simp] theorem setIm (h : s.Stores t) (m : IntMode) : s.Stores (t.setIm m) := h.outside rfl
@[simp] theorem setHalted (h : s.Stores t) (b : Bool) : s.Stores (t.setHalted b) := h.outside rfl
@[simp] theorem swapAf (h : s.Stores t) : s.Stores t.swapAf := h.outside rfl
@[simp] theorem swapGp (h : s.Stores t) : s.Stores t.swapGp := h.outside rfl
@[simp] theorem bumpR (h : s.Stores t) (n : Nat) : s.Stores (t.bumpR n) := h.outside rfl
@[simp] theorem ioRead (h : s.Stores t) (p : Word) : s.Stores (t.ioRead p) := h.outside (by simp [State.data])
@[simp] theorem dropTop (h : s.Stores t) : s.Stores t.dropTop := h.setSp _
@[simp] theorem ret (h : s.Stores t) : s.Stores t.ret := h.dropTop.setPc _
@[simp] theorem returnFromInterrupt (h : s.Stores t) : s.Stores t.returnFromInterrupt := h.ret.setIff _ _
@[simp] theorem jumpRelative (h : s.Stores t) (e : Byte) : s.Stores (t.jumpRelative e) := h.setPc _
@[simp] theorem repeatIf (h : s.Stores t) (again : Bool) : s.Stores (t.repeatIf again) := by
  cases again <;> [exact h; exact h.setPc _]
@[simp] theorem setBc (h : s.Stores t) (v : Word) : s.Stores (t.setBc v) := (h.setReg _ _).setReg _ _
@[simp] theorem setDe (h : s.Stores t) (v : Word) : s.Stores (t.setDe v) := (h.setReg _ _).setReg _ _
@[simp] theorem setHl (h : s.Stores t) (v : Word) : s.Stores (t.setHl v) := (h.setReg _ _).setReg _ _
@[simp] theorem setAf (h : s.Stores t) (v : Word) : s.Stores (t.setAf v) := (h.setReg _ _).setF _
@[simp] theorem setPair (h : s.Stores t) (p : Pair) (v : Word) : s.Stores (t.setPair p v) := by
  cases p <;> [exact h.setBc v; exact h.setDe v; exact h.setHl v; exact h.setSp v]
@[simp] theorem setStackPair (h : s.Stores t) (p : StackPair) (v : Word) : s.Stores (t.setStackPair p v) := by
  cases p <;> [exact h.setBc v; exact h.setDe v; exact h.setHl v; exact h.setAf v]
@[simp] theorem copyTo (h : s.Stores t) (z : Option Reg8) (v : Byte) : s.Stores (t.copyTo z v) := by
  cases z <;> [exact h; exact h.setReg _ v]
@[simp] theorem putReg (h : s.Stores t) (r : Reg8) (res : Byte × Flags) : s.Stores (t.putReg r res) :=
  (h.setFlags _).setReg r _
@[simp] theorem putHalf (h : s.Stores t) (k : Index) (g : Half) (res : Byte × Flags) : s.Stores (t.putHalf k g res) :=
  (h.setFlags _).setHalf k g _
@[simp] theorem putHl (h : s.Stores t) (res : Word × Flags) : s.Stores (t.putHl res) := (h.setFlags _).setHl _
@[simp] theorem putIndex (h : s.Stores t) (k : Index) (res : Word × Flags) : s.Stores (t.putIndex k res) :=
  (h.setFlags _).setIndex k _
@[simp] theorem alu (h : s.Stores t) (op : AluOp) (v : Byte) : s.Stores (t.alu op v) := by
  cases op
  case cp => exact h.setFlags _
  all_goals exact h.putReg .a _
@[simp] theorem loadIr (h : s.Stores t) (v : Byte) : s.Stores (t.loadIr v) := h.putReg .a _
@[simp] theorem rotAcc (h : s.Stores t) (op : RotOp) : s.Stores (t.rotAcc op) := h.putReg .a _
@[simp] theorem blockCompare (h : s.Stores t) (dir : Direction) : s.Stores (t.blockCompare dir) :=
  ((h.setHl _).setBc _).setFlags _

/-! ### The operations that write a byte or a port -/

@[simp] theorem writeWord (h : s.Stores t) (a v : Word) : s.Stores (t.writeWord a v) :=
  (h.writeByte a _).writeByte _ _
@[simp] theorem pushByte (h : s.Stores t) (v : Byte) : s.Stores (t.pushByte v) := (h.setSp _).writeByte _ v
@[simp] theorem push16 (h : s.Stores t) (v : Word) : s.Stores (t.push16 v) := (h.pushByte _).pushByte _
@[simp] theorem call (h : s.Stores t) (target : Word) : s.Stores (t.call target) := (h.push16 _).setPc target
@[simp] theorem putMem (h : s.Stores t) (a : Word) (res : Byte × Flags) : s.Stores (t.putMem a res) :=
  (h.setFlags _).writeByte a _
@[simp] theorem putBit (h : s.Stores t) (a : Word) (b : BitVec 3) (x : Bool) (z : Option Reg8) :
    s.Stores (t.putBit a b x z) := (h.writeByte a _).copyTo z _
@[simp] theorem rotMem (h : s.Stores t) (op : RotOp) (a : Word) (z : Option Reg8) : s.Stores (t.rotMem op a z) :=
  (h.putMem a _).copyTo z _
@[simp] theorem rotDigits (h : s.Stores t) (hi lo acc : BitVec 4) : s.Stores (t.rotDigits hi lo acc) :=
  (h.writeByte _ _).putReg .a _
@[simp] theorem blockMove (h : s.Stores t) (dir : Direction) : s.Stores (t.blockMove dir) :=
  ((((h.writeByte _ _).setHl _).setDe _).setBc _).setFlags _
@[simp] theorem blockIn (h : s.Stores t) (dir : Direction) : s.Stores (t.blockIn dir) :=
  ((((h.ioRead _).writeByte _ _).setHl _).setReg .b _).setFlags _
@[simp] theorem blockOut (h : s.Stores t) (dir : Direction) : s.Stores (t.blockOut dir) :=
  (((h.setReg .b _).ioWrite _ _).setHl _).setFlags _

end State.Stores

/-- A conditional instruction's result, one condition for each branch. -/
@[simp] theorem State.stores_ite (s t u : State) (c : Prop) [Decidable c] :
    s.Stores (if c then t else u) ↔ if c then s.Stores t else s.Stores u := by rw [apply_ite s.Stores]

/-- Every instruction that completes adds byte writes and port writes only. -/
theorem exec_stores {i : Instr} {s t u : State} (hs : s.Stores t) (h : exec i t = .next u) : s.Stores u := by
  cases i <;> cases h
  all_goals simp [hs, State.Stores.writeByte, State.Stores.ioWrite]

/-- The fetch and the halted step write R and PC only, so a step stores what its instruction stores (30_encoding.md R130,
R132). -/
theorem step_stores {s t : State} (h : step s = .next t) : s.Stores t := by
  rcases step_cases h with ⟨-, rfl⟩ | ⟨-, hexec⟩
  · exact State.Stores.refl.bumpR 1
  · exact exec_stores ((State.Stores.refl.bumpR _).setPc _) hexec

/-- Settles O8: byte writes and port writes keep the canonical form, and a step makes no others. -/
theorem stepKeepsCanonicalData : Obligations.StepKeepsCanonicalData := fun _ _ hs h => (step_stores h).keeps_inv hs

end Sys2Proof.Machine
end

section
/-! SUPPORT and the obligations about memory accesses: bytes and words, the stack, `load`, and the ROM range (20_memory.md
R72 to R80, R88, R89). -/

namespace Sys2Proof.Machine

variable (s : State)

/-- Settles O15: a step and the host's byte and word writes are byte writes, which leave the ROM range (R73, R75). -/
theorem romBytesNeverChange : Obligations.RomBytesNeverChange := fun _ _ ha =>
  ⟨fun _ h => (step_stores h).keeps_rom_bytes ha, fun b v w =>
    ⟨(State.Stores.refl.writeByte b v).keeps_rom_bytes ha, (State.Stores.refl.writeWord b w).keeps_rom_bytes ha⟩⟩

theorem State.readByte_of_le (a : Word) (h : s.memSize ≤ a.toNat) : s.readByte a = 0 := if_neg (Nat.not_lt.mpr h)

theorem State.writable_of_lt (a : Word) (h : a.toNat < s.memSize) : s.writable a = !s.inRom a := by
  simp [State.writable, h]

/-- Settles O16: the outcome of a write at its own address follows the three cases of R73. -/
theorem byteReadsAndWrites : Obligations.ByteReadsAndWrites := by
  intro s a v
  refine ⟨s.readByte_of_le a, fun h => if_pos h, ?written, s.writeByte_frame a v⟩
  case written =>
    rw [State.writeByte_readByte_same]
    by_cases hsize : s.memSize ≤ a.toNat
    · simp [State.stored, State.writable, hsize, s.readByte_of_le a hsize]
    · rw [if_neg hsize, State.stored, s.writable_of_lt a (Nat.not_le.mp hsize), State.inRom]
      cases s.rom with
      | none => rfl
      | some range => by_cases hin : range.1.toNat ≤ a.toNat ∧ a.toNat ≤ range.2.toNat <;> simp only [hin] <;> rfl

/-- Settles O17: each byte of a written word follows the rule of a byte write, and the reads join bytes. -/
theorem wordAccessors : Obligations.WordAccessors := by
  intro s a v
  have hlo : (s.writeWord a v).readByte a = s.stored a (loByte v) := by simp [State.writeWord_readByte]
  have hhi : (s.writeWord a v).readByte (a + 1) = s.stored (a + 1) (hiByte v) := by
    rw [State.writeWord_readByte, if_neg (Word.succ_ne a), if_pos rfl]
  refine ⟨fun h h' => ⟨s.writeWord_readWord a v h h', ?swapped⟩, hlo, hhi, s.writeWord_frame a v, rfl, rfl, ?dword⟩
  case swapped =>
    show joinBytes ((s.writeWord a v).readByte a) ((s.writeWord a v).readByte (a + 1)) = _
    rw [hlo, hhi, State.stored, State.stored, if_pos h, if_pos h']
  case dword =>
    have hnext : a + 2 + 1 = a + 3 := by bv_omega
    rw [State.hostReadDword, State.hostReadWord, State.readWord, hnext]
    exact BitVec.append_assoc

/-- Settles O18. -/
theorem pushThenPop : Obligations.PushThenPop := fun s v =>
  ⟨s.push16_pushed v, s.push16_frame v, s.push16_dropTop_sp v, s.push16_top v, rfl, rfl⟩

/-! ### `load` (R80) -/

/-- Addresses from `origin` up that stay inside the address space do not wrap. -/
theorem toNat_add_ofNat (origin : Word) (k : Nat) (h : origin.toNat + k < 65536) :
    (origin + BitVec.ofNat 16 k).toNat = origin.toNat + k := by
  rw [BitVec.toNat_add, BitVec.toNat_ofNat]
  omega

/-- Settles O19: a `load` that fits is `Memory.putAll`, which fills the image's addresses and no others. -/
theorem loadIsAllOrNothing : Obligations.LoadIsAllOrNothing := by
  intro s bytes origin
  refine ⟨rfl, fun h => if_pos h, fun hsize hfits => ⟨_, if_neg (Nat.not_lt.mpr hfits), ?copied, ?frame⟩⟩
  case copied =>
    intro k v hv
    obtain ⟨hk, -⟩ := List.getElem?_eq_some_iff.mp hv
    have haddr := toNat_add_ofNat origin k (by omega)
    simp only [State.readByte, Memory.get_putAll, haddr]
    rw [if_pos (by omega), if_pos (by omega), Nat.add_sub_cancel_left]
    simp [hv]
  case frame =>
    intro l hl
    cases l with
    | mem b =>
      have hout : ¬ (origin.toNat ≤ b.toNat ∧ b.toNat < origin.toNat + bytes.length) := by
        rintro ⟨hle, hlt⟩
        refine hl (b.toNat - origin.toNat) (by omega) (congrArg Loc.mem (BitVec.eq_of_toNat_eq ?_))
        rw [toNat_add_ofNat] <;> omega
      simp [Loc.sameAt, State.readByte, Memory.get_putAll, hout]
    | _ => rfl

end Sys2Proof.Machine
end

section
/-! SUPPORT. The first byte and the opcode byte: the fields of an opcode, the map and the length that a first byte
selects (30_encoding.md R100 to R103, R112). -/

namespace Sys2Proof

/-! ### An opcode byte, field by field (R102) -/

theorem field2_cases {P : BitVec 2 → Prop} (k0 : P 0) (k1 : P 1) (k2 : P 2) (k3 : P 3) (k : BitVec 2) : P k := by
  have hk : k = 0 ∨ k = 1 ∨ k = 2 ∨ k = 3 := by revert k; decide
  rcases hk with rfl | rfl | rfl | rfl <;> assumption

theorem field3_cases {P : BitVec 3 → Prop} (k0 : P 0) (k1 : P 1) (k2 : P 2) (k3 : P 3) (k4 : P 4) (k5 : P 5) (k6 : P 6)
    (k7 : P 7) (k : BitVec 3) : P k := by
  have hk : k = 0 ∨ k = 1 ∨ k = 2 ∨ k = 3 ∨ k = 4 ∨ k = 5 ∨ k = 6 ∨ k = 7 := by revert k; decide
  rcases hk with rfl | rfl | rfl | rfl | rfl | rfl | rfl | rfl <;> assumption

/-- An opcode byte is its fields x, y and z (R102). -/
theorem append_fields : ∀ op : Byte, fieldX op ++ fieldY op ++ fieldZ op = op := by decide

theorem byte_cases {P : Byte → Prop} (fields : ∀ (x : BitVec 2) (y z : BitVec 3), P (x ++ y ++ z)) (op : Byte) : P op :=
  append_fields op ▸ fields ..

/-- The byte that selects IX, or IY when `fd` (R110). -/
def prefixByte (fd : Bool) : Byte := if fd then 0xFD else 0xDD

/-- A first byte begins the CB map, the ED map, one of the two index maps, or is an opcode of the base map (R100). -/
theorem firstByte_cases {P : Byte → Prop} (cb : P 0xCB) (ed : P 0xED) (index : ∀ fd, P (prefixByte fd))
    (base : ∀ op, op ≠ 0xCB → op ≠ 0xED → op ≠ 0xDD → op ≠ 0xFD → P op) (b0 : Byte) : P b0 := by
  by_cases hcb : b0 = 0xCB
  · exact hcb ▸ cb
  by_cases hed : b0 = 0xED
  · exact hed ▸ ed
  by_cases hdd : b0 = 0xDD
  · exact hdd ▸ index false
  by_cases hfd : b0 = 0xFD
  · exact hfd ▸ index true
  exact base b0 hcb hed hdd hfd

/-! ### The first byte selects the map and the length (R103, R112) -/

theorem decodeBytes_cb (b1 b2 b3 : Byte) : decodeBytes 0xCB b1 b2 b3 = decodeCb b1 := rfl

theorem decodeBytes_ed (b1 b2 b3 : Byte) : decodeBytes 0xED b1 b2 b3 = decodeEd b1 b2 b3 := rfl

theorem decodeBytes_index (fd : Bool) (b1 b2 b3 : Byte) :
    decodeBytes (prefixByte fd) b1 b2 b3 = decodeIndex fd b1 b2 b3 := by cases fd <;> rfl

theorem decodeBytes_base {op : Byte} (hcb : op ≠ 0xCB) (hed : op ≠ 0xED) (hdd : op ≠ 0xDD) (hfd : op ≠ 0xFD)
    (b1 b2 b3 : Byte) : decodeBytes op b1 b2 b3 = decodeBase op b1 b2 := by
  rw [decodeBytes, if_neg hcb, if_neg hed, if_neg hdd, if_neg hfd]

theorem lengthOf_cb (b1 : Byte) : lengthOf 0xCB b1 = 2 := rfl

theorem lengthOf_ed (b1 : Byte) : lengthOf 0xED b1 = if fieldX b1 = 1 ∧ fieldZ b1 = 3 then 4 else 2 := rfl

theorem lengthOf_index (fd : Bool) (b1 : Byte) : lengthOf (prefixByte fd) b1 =
    if b1 = 0xCB then 4 else if affected b1 = false then 1 else if b1 = 0x36 then 4 else if usesMemHl b1 then 3
    else 1 + baseLength b1 := by cases fd <;> rfl

theorem lengthOf_base {op : Byte} (hcb : op ≠ 0xCB) (hed : op ≠ 0xED) (hdd : op ≠ 0xDD) (hfd : op ≠ 0xFD) (b1 : Byte) :
    lengthOf op b1 = baseLength op := by
  rw [lengthOf, if_neg hcb, if_neg hed, if_neg (not_or.mpr ⟨hdd, hfd⟩)]

theorem ne_cb_of_not_affected {b1 : Byte} (h : affected b1 = false) : b1 ≠ 0xCB := by
  rintro rfl
  exact absurd h (by decide)

theorem decodeIndex_of_not_affected (fd : Bool) {b1 : Byte} (h : affected b1 = false) (b2 b3 : Byte) :
    decodeIndex fd b1 b2 b3 = .prefixIgnored fd := by
  rw [decodeIndex, if_neg (ne_cb_of_not_affected h), if_neg (Bool.eq_false_iff.mp h)]

theorem baseLength_bounds : ∀ op : Byte, 1 ≤ baseLength op ∧ baseLength op ≤ 3 := by decide

theorem lengthOf_bounds (b0 b1 : Byte) : 1 ≤ lengthOf b0 b1 ∧ lengthOf b0 b1 ≤ 4 := by
  induction b0 using firstByte_cases with
  | cb => rw [lengthOf_cb]; decide
  | ed => rw [lengthOf_ed]; split <;> decide
  | index fd =>
    have := baseLength_bounds b1
    rw [lengthOf_index]
    split_ifs <;> omega
  | base op hcb hed hdd hfd =>
    have := baseLength_bounds op
    rw [lengthOf_base hcb hed hdd hfd]
    omega

/-- A DD or FD byte is a whole instruction exactly before a byte it does not affect (R103, R112). -/
theorem two_le_lengthOf_index_iff (fd : Bool) (b1 : Byte) : 2 ≤ lengthOf (prefixByte fd) b1 ↔ affected b1 = true := by
  rw [lengthOf_index]
  cases h : affected b1 with
  | false => rw [if_neg (ne_cb_of_not_affected h), if_pos rfl]; decide
  | true =>
    have := baseLength_bounds b1
    simp only [reduceCtorEq, if_false, iff_true]
    split_ifs <;> omega

end Sys2Proof
end

section
/-! SUPPORT and the obligations about the bytes that an instruction was decoded from: they are its encoding, whose length
and fetch cycles follow (30_encoding.md R103, R108 to R117, R131). An opcode byte has 256 values, so each map is proved by
walking the opcode's fields, with the operand bytes left free. -/

namespace Sys2Proof

open Machine

/-- `i` is well formed and `bs` are its bytes. -/
def Instr.EncodedAs (i : Instr) (bs : List Byte) : Prop := i.wf = true ∧ encode i = bs

/-- The two bytes of an operand word are those the decoder joined, low byte first (R107). -/
theorem operandWord_bytes (pre : List Byte) (lo hi : Byte) :
    pre ++ [loByte (joinBytes hi lo), hiByte (joinBytes hi lo)] = pre ++ [lo, hi] := by rw [loByte_join, hiByte_join]

/-- The unprefixed map (R108); the cells left out begin the other maps. -/
theorem decodeBase_encodedAs {op : Byte} (hcb : op ≠ 0xCB) (hed : op ≠ 0xED) (hdd : op ≠ 0xDD) (hfd : op ≠ 0xFD)
    (b1 b2 b3 : Byte) : (decodeBase op b1 b2).EncodedAs ([op, b1, b2, b3].take (baseLength op)) := by
  cases op using byte_cases with | fields x y z
  cases x using field2_cases with
  | k0 =>
    cases z using field3_cases <;> cases y using field3_cases
    case k1.k0 | k1.k2 | k1.k4 | k1.k6 | k2.k4 | k2.k5 | k2.k6 | k2.k7 => exact ⟨rfl, operandWord_bytes [_] b1 b2⟩
    all_goals exact ⟨rfl, rfl⟩
  | k1 | k2 => cases z using field3_cases <;> cases y using field3_cases <;> exact ⟨rfl, rfl⟩
  | k3 =>
    cases z using field3_cases
    case k2 | k4 => cases y using field3_cases <;> exact ⟨rfl, operandWord_bytes [_] b1 b2⟩
    all_goals cases y using field3_cases
    case k3.k0 | k5.k1 => exact ⟨rfl, operandWord_bytes [_] b1 b2⟩
    case k3.k1 => exact absurd rfl hcb
    case k5.k3 => exact absurd rfl hdd
    case k5.k5 => exact absurd rfl hed
    case k5.k7 => exact absurd rfl hfd
    all_goals exact ⟨rfl, rfl⟩

/-- The CB map (R109). -/
theorem decodeCb_encodedAs (op : Byte) : (decodeCb op).EncodedAs [0xCB, op] := by
  cases op using byte_cases with | fields x y z
  cases x using field2_cases <;> cases y using field3_cases <;> cases z using field3_cases <;> exact ⟨rfl, rfl⟩

/-- The ED map (R114, R115). -/
theorem decodeEd_encodedAs (op b2 b3 : Byte) :
    (decodeEd op b2 b3).EncodedAs ([0xED, op, b2, b3].take (lengthOf 0xED op)) := by
  cases op using byte_cases with | fields x y z
  cases x using field2_cases <;> cases z using field3_cases
  case k1.k3 => cases y using field3_cases <;> exact ⟨rfl, operandWord_bytes [_, _] b2 b3⟩
  all_goals cases y using field3_cases <;> exact ⟨rfl, rfl⟩

/-- The DD CB and FD CB map (R113). -/
theorem decodeXyCb_encodedAs (fd : Bool) (d op : Byte) : (decodeXyCb fd d op).EncodedAs [prefixByte fd, 0xCB, d, op] := by
  cases op using byte_cases with | fields x y z
  cases fd <;> cases x using field2_cases <;> cases y using field3_cases <;> cases z using field3_cases <;>
    exact ⟨rfl, rfl⟩

/-- The DD and FD map (R110 to R112). -/
theorem decodeIndex_encodedAs (fd : Bool) (b1 b2 b3 : Byte) :
    (decodeIndex fd b1 b2 b3).EncodedAs ([prefixByte fd, b1, b2, b3].take (lengthOf (prefixByte fd) b1)) := by
  by_cases hcb : b1 = 0xCB
  · subst hcb
    cases fd <;> exact decodeXyCb_encodedAs _ b2 b3
  cases b1 using byte_cases with | fields x y z
  cases x using field2_cases <;> cases z using field3_cases <;> cases y using field3_cases
  case k0.k1.k4 | k0.k2.k4 | k0.k2.k5 => cases fd <;> exact ⟨rfl, operandWord_bytes [_, _] b2 b3⟩
  case k3.k3.k1 => exact absurd rfl hcb
  all_goals cases fd <;> exact ⟨rfl, rfl⟩

/-- Every four bytes begin with the encoding of the instruction they decode to (R116). -/
theorem decodeBytes_encodedAs (b0 b1 b2 b3 : Byte) :
    (decodeBytes b0 b1 b2 b3).EncodedAs ([b0, b1, b2, b3].take (lengthOf b0 b1)) := by
  induction b0 using firstByte_cases with
  | cb => rw [decodeBytes_cb, lengthOf_cb]; exact decodeCb_encodedAs b1
  | ed => rw [decodeBytes_ed]; exact decodeEd_encodedAs b1 b2 b3
  | index fd => rw [decodeBytes_index]; exact decodeIndex_encodedAs fd b1 b2 b3
  | base op hcb hed hdd hfd =>
    rw [decodeBytes_base hcb hed hdd hfd, lengthOf_base hcb hed hdd hfd]
    exact decodeBase_encodedAs hcb hed hdd hfd b1 b2 b3

theorem instrLength_decodeBytes (b0 b1 b2 b3 : Byte) : instrLength (decodeBytes b0 b1 b2 b3) = lengthOf b0 b1 := by
  obtain ⟨-, hencode⟩ := decodeBytes_encodedAs b0 b1 b2 b3
  have := lengthOf_bounds b0 b1
  rw [instrLength, hencode, List.length_take]
  exact Nat.min_eq_left this.2

/-! ### Lists of bytes -/

/-- The instruction at the front of a byte list, read as if zeros followed its end. -/
def firstInstr (bs : List Byte) : Instr := decodeBytes (bs.getD 0 0) (bs.getD 1 0) (bs.getD 2 0) (bs.getD 3 0)

/-- The length of that instruction (R103). -/
def firstLength (bs : List Byte) : Nat := lengthOf (bs.getD 0 0) (bs.getD 1 0)

theorem decode_eq (bs : List Byte) : decode bs =
    if bs = [] ∨ ((bs.getD 0 0 = 0xDD ∨ bs.getD 0 0 = 0xFD ∨ bs.getD 0 0 = 0xED) ∧ bs.length < 2)
      ∨ bs.length < firstLength bs then .error .needsMoreBytes
    else .ok (firstInstr bs, bs.drop (firstLength bs)) := rfl

/-- A byte list decodes when it holds the bytes that determine the length, and all bytes of the length they determine. -/
theorem decode_eq_ok_iff {bs : List Byte} {i : Instr} {rest : List Byte} : decode bs = .ok (i, rest) ↔
    (bs.getD 0 0 = 0xDD ∨ bs.getD 0 0 = 0xFD ∨ bs.getD 0 0 = 0xED → 2 ≤ bs.length) ∧ firstLength bs ≤ bs.length
      ∧ firstInstr bs = i ∧ bs.drop (firstLength bs) = rest := by
  rw [decode_eq]
  split_ifs with h
  · refine ⟨nofun, fun ⟨htwo, hlength, _⟩ => ?_⟩
    have := lengthOf_bounds (bs.getD 0 0) (bs.getD 1 0)
    rcases h with rfl | ⟨hfirst, hshort⟩ | hshort
    · exact absurd hlength (Nat.not_le.mpr this.1)
    · exact absurd (htwo hfirst) (Nat.not_le.mpr hshort)
    · exact absurd hlength (Nat.not_le.mpr hshort)
  · obtain ⟨-, htwo, hlength⟩ := by simpa only [not_or, not_and, Nat.not_lt] using h
    exact ⟨by rintro ⟨⟩; exact ⟨htwo, hlength, rfl, rfl⟩, by rintro ⟨-, -, rfl, rfl⟩; rfl⟩

theorem instrLength_firstInstr (bs : List Byte) : instrLength (firstInstr bs) = firstLength bs :=
  instrLength_decodeBytes ..

theorem take_getD {bs : List Byte} {n : Nat} (hn : n ≤ bs.length) (h4 : n ≤ 4) :
    [bs.getD 0 0, bs.getD 1 0, bs.getD 2 0, bs.getD 3 0].take n = bs.take n := by
  refine List.ext_getElem (by simp only [List.length_take, List.length_cons, List.length_nil]; omega) fun k hk _ => ?_
  obtain ⟨hkn, hk4⟩ : k < n ∧ k < 4 := by simpa using hk
  rw [List.getElem_take, List.getElem_take]
  interval_cases k <;> exact List.getD_eq_getElem _ _ (hkn.trans_le hn)

theorem firstInstr_encodedAs {bs : List Byte} (h : firstLength bs ≤ bs.length) :
    (firstInstr bs).EncodedAs (bs.take (firstLength bs)) := by
  rw [← take_getD h (lengthOf_bounds ..).2]
  exact decodeBytes_encodedAs ..

/-- Settles O2: the bytes that were read are the encoding of what they decode to, map by map. -/
theorem encodeOfDecode : Obligations.EncodeOfDecode := by
  intro bs i rest h
  obtain ⟨-, hlength, rfl, rfl⟩ := decode_eq_ok_iff.mp h
  obtain ⟨hwf, hencode⟩ := firstInstr_encodedAs hlength
  exact ⟨hwf, by rw [hencode, List.take_append_drop]⟩

/-! ### Fetch cycles (R131) -/

theorem fetchCycles_of_encode {i : Instr} {b0 : Byte} {tail : List Byte} (h : encode i = b0 :: tail) :
    fetchCycles i = if tail ≠ [] ∧ (b0 = 0xCB ∨ b0 = 0xDD ∨ b0 = 0xED ∨ b0 = 0xFD) then 2 else 1 := by
  unfold fetchCycles
  rw [h]
  cases tail <;> simp

/-- The bytes after a first CB, ED or affecting DD or FD byte make a second fetch cycle (R131). -/
theorem second_fetch_iff (b0 b1 : Byte) :
    2 ≤ lengthOf b0 b1 ∧ (b0 = 0xCB ∨ b0 = 0xDD ∨ b0 = 0xED ∨ b0 = 0xFD) ↔
      b0 = 0xCB ∨ b0 = 0xED ∨ ((b0 = 0xDD ∨ b0 = 0xFD) ∧ affected b1 = true) := by
  induction b0 using firstByte_cases with
  | cb => rw [lengthOf_cb]; simp
  | ed => rw [lengthOf_ed]; split <;> simp
  | index fd => rw [two_le_lengthOf_index_iff]; cases fd <;> simp [prefixByte]
  | base op hcb hed hdd hfd => simp only [hcb, hed, hdd, hfd, or_self, false_and, and_false]

theorem fetchCycles_decodeBytes (b0 b1 b2 b3 : Byte) : fetchCycles (decodeBytes b0 b1 b2 b3) =
    if b0 = 0xCB ∨ b0 = 0xED ∨ ((b0 = 0xDD ∨ b0 = 0xFD) ∧ affected b1 = true) then 2 else 1 := by
  obtain ⟨-, hencode⟩ := decodeBytes_encodedAs b0 b1 b2 b3
  obtain ⟨m, hm⟩ : ∃ m, lengthOf b0 b1 = m + 1 := Nat.exists_eq_add_of_le' (lengthOf_bounds b0 b1).1
  rw [hm, List.take_succ_cons] at hencode
  rw [fetchCycles_of_encode hencode]
  refine if_congr (Iff.trans ?_ (second_fetch_iff b0 b1)) rfl rfl
  have : [b1, b2, b3].take m ≠ [] ↔ 2 ≤ lengthOf b0 b1 := by
    rw [hm, Ne, List.take_eq_nil_iff]
    simp only [List.cons_ne_nil, or_false]
    omega
  rw [this]

/-- Settles O3: the length and the fetch cycles are those of the encoding that was read. -/
theorem lengthAndFetchCycles : Obligations.LengthAndFetchCycles := fun b0 b1 b2 b3 =>
  ⟨decode_eq_ok_iff.mpr ⟨fun _ => Nat.le_add_left 2 2, (lengthOf_bounds b0 b1).2, rfl, rfl⟩,
    instrLength_decodeBytes b0 b1 b2 b3, fetchCycles_decodeBytes b0 b1 b2 b3⟩

end Sys2Proof
end

section
/-! SUPPORT and the obligation about decoding an encoding (30_encoding.md R102 to R117). -/

namespace Sys2Proof

open Machine

/-- The bytes that name no instruction after ED decode to NONI (R115). The walk takes the bytes of the list and leaves out
the others, whatever they decode to. -/
theorem decodeEd_of_isNoniByte {op : Byte} (h : isNoniByte op = true) (b2 b3 : Byte) : decodeEd op b2 b3 = .noni op := by
  have hwalk : (if isNoniByte op then decodeEd op b2 b3 else .noni op) = .noni op := by
    cases op using byte_cases with | fields x y z
    cases x using field2_cases <;> cases y using field3_cases <;> cases z using field3_cases <;> rfl
  rwa [if_pos h] at hwalk

/-- A byte list that begins with the encoding of `i` begins with `i`. The decoder computes as soon as the finite fields of
the opcode are known; operand bytes and what follows stay free. -/
theorem firstInstr_encode_append {i : Instr} {rest : List Byte} (hwf : i.wf = true)
    (hignored : ∀ fd, i = .prefixIgnored fd → affected (rest.getD 0 0) = false) :
    firstInstr (encode i ++ rest) = i := by
  cases i <;> simp only [firstInstr, encode, List.cons_append, List.nil_append, List.getD_cons_zero, List.getD_cons_succ]
  -- one register
  case ldRN r _ | ldRIx r _ | ldRIy r _ | ldIxR _ r | ldIyR _ r | ldRHl r | ldHlR r | addR r | adcR r | subR r | sbcR r
    | andR r | orR r | xorR r | cpR r | incR r | decR r | rlcR r | rlR r | rrcR r | rrR r | slaR r | sraR r | srlR r
    | sllR r | inRC r | outCR r => cases r <;> rfl
  -- one index half
  case addIxHalf g | addIyHalf g | adcIxHalf g | adcIyHalf g | subIxHalf g | subIyHalf g | sbcIxHalf g | sbcIyHalf g
    | andIxHalf g | andIyHalf g | orIxHalf g | orIyHalf g | xorIxHalf g | xorIyHalf g | cpIxHalf g | cpIyHalf g
    | incIxHalf g | incIyHalf g | decIxHalf g | decIyHalf g | ldIxHalfN g _ | ldIyHalfN g _ => cases g <;> rfl
  -- one pair, condition or mirror bit
  case pushQq k | popQq k | addHlSs k | adcHlSs k | sbcHlSs k | incSs k | decSs k | addIxPp k | addIyRr k | retCc k
    | im1 k | im2 k => cases k <;> rfl
  -- one bit number, restart number or mirror field
  case bitMemHl k | setMemHl k | resMemHl k | neg k | rst k => cases k using field3_cases <;> rfl
  -- two such fields
  case ldRR r r' => cases r <;> cases r' <;> rfl
  case ldIxHalfHalf g h | ldIyHalfHalf g h => cases g <;> cases h <;> rfl
  case im0 m k => cases m <;> cases k <;> rfl
  case bitR b r | setR b r | resR b r => cases b using field3_cases <;> cases r <;> rfl
  case bitMemIx b _ j | bitMemIy b _ j => cases b using field3_cases <;> cases j using field3_cases <;> rfl
  -- the register copy (R113)
  case rlcMemIx _ z | rlcMemIy _ z | rlMemIx _ z | rlMemIy _ z | rrcMemIx _ z | rrcMemIy _ z | rrMemIx _ z | rrMemIy _ z
    | slaMemIx _ z | slaMemIy _ z | sraMemIx _ z | sraMemIy _ z | srlMemIx _ z | srlMemIy _ z | sllMemIx _ z
    | sllMemIy _ z =>
    cases z with
    | none => rfl
    | some r => cases r <;> rfl
  case setMemIx b _ z | setMemIy b _ z | resMemIx b _ z | resMemIy b _ z =>
    cases z with
    | none => cases b using field3_cases <;> rfl
    | some r => cases r <;> cases b using field3_cases <;> rfl
  -- fields that `Instr.wf` restricts
  case ldRIxHalf r g | ldRIyHalf r g | ldIxHalfR g r | ldIyHalfR g r =>
    cases r
    case h | l => exact absurd hwf Bool.false_ne_true
    all_goals cases g <;> rfl
  case jrCc cc _ =>
    cases cc
    case po | pe | p | m => exact absurd hwf Bool.false_ne_true
    all_goals rfl
  case retn m =>
    cases m using field3_cases
    case k1 => exact absurd hwf Bool.false_ne_true
    all_goals rfl
  case noni op => exact decodeEd_of_isNoniByte hwf _ _
  case prefixIgnored fd => cases fd <;> exact decodeIndex_of_not_affected _ (hignored _ rfl) _ _
  -- a word, which the decoder joins from the two bytes the encoder cut it into
  case ldANn nn | ldNnA nn | ldIxNn nn | ldIyNn nn | ldHlMem nn | ldIxMem nn | ldIyMem nn | ldMemHl nn | ldMemIx nn
    | ldMemIy nn | jpNn nn | callNn nn =>
    conv_rhs => rw [← join_hi_lo nn]
    rfl
  case ldDdNn k nn | ldDdMem k nn | ldMemDd nn k | jpCc k nn | callCc k nn =>
    conv_rhs => rw [← join_hi_lo nn]
    cases k <;> rfl
  -- no field of the opcode
  all_goals rfl

/-- After DD, FD or ED an instruction has a second byte, unless the first is ignored (R103, R112). -/
theorem two_le_firstLength_or_prefixIgnored {bs : List Byte}
    (h : bs.getD 0 0 = 0xDD ∨ bs.getD 0 0 = 0xFD ∨ bs.getD 0 0 = 0xED) :
    2 ≤ firstLength bs ∨ ∃ fd, firstInstr bs = .prefixIgnored fd := by
  have hindex (fd : Bool) (hfirst : bs.getD 0 0 = prefixByte fd) :
      2 ≤ firstLength bs ∨ ∃ fd, firstInstr bs = .prefixIgnored fd := by
    rw [firstLength, firstInstr, hfirst, two_le_lengthOf_index_iff, decodeBytes_index]
    cases haff : affected (bs.getD 1 0) with
    | true => exact .inl rfl
    | false => exact .inr ⟨fd, decodeIndex_of_not_affected fd haff _ _⟩
  rcases h with hdd | hfd | hed
  · exact hindex false hdd
  · exact hindex true hfd
  · left
    rw [firstLength, hed, lengthOf_ed]
    split <;> decide

/-- Settles O1: the front of the list is the instruction, so its length is known and the rest is what follows. -/
theorem decodeOfEncode : Obligations.DecodeOfEncode := by
  intro i rest hwf hignored
  have hinstr : firstInstr (encode i ++ rest) = i := firstInstr_encode_append hwf fun fd hi => by
    obtain ⟨b, more, rfl, hb⟩ := hignored fd hi
    exact hb
  have hlength : firstLength (encode i ++ rest) = (encode i).length := by
    rw [← instrLength_firstInstr, hinstr, instrLength]
  have hfits : firstLength (encode i ++ rest) ≤ (encode i ++ rest).length := by simp [hlength]
  refine decode_eq_ok_iff.mpr ⟨fun hfirst => ?_, hfits, hinstr, by rw [hlength, List.drop_left]⟩
  rcases two_le_firstLength_or_prefixIgnored hfirst with htwo | ⟨fd, hi⟩
  · exact htwo.trans hfits
  · obtain ⟨b, more, rfl, -⟩ := hignored fd (hinstr.symm.trans hi)
    have hone : (encode i).length = 1 := by rw [← hinstr, hi]; rfl
    rw [List.length_append, hone, List.length_cons]
    omega

end Sys2Proof
end

section
/-! SUPPORT and the obligations about the step: it runs the instruction at PC, it completes, and a halted core only counts
R (30_encoding.md R130 to R134; 60_exceptions.md R620). -/

namespace Sys2Proof.Machine

/-- The fetch writes R and PC only. -/
theorem State.afterFetch_frame (s : State) (i : Instr) : s.SameBut [.pc, .regR] (s.afterFetch i) :=
  (s.bumpR_frame _).andThen ((s.bumpR _).setPc_frame _) (by simp) (by simp)

/-- No instruction ends in a fault or a refusal (60_exceptions.md R620). -/
theorem exec_completes (i : Instr) (s : State) : ∃ t, exec i s = .next t := by
  cases i <;> exact ⟨_, rfl⟩

/-- Settles O6: a halted step answers a next state, and so does each instruction. -/
theorem everyStepCompletes : Obligations.EveryStepCompletes := by
  intro s
  cases hs : s.halted with
  | true => exact ⟨_, step_of_halted hs⟩
  | false =>
    rw [step_of_running hs]
    exact exec_completes ..

/-- Settles O5: four bytes decode to the instruction that the core fetches. -/
theorem stepRunsDecodedInstruction : Obligations.StepRunsDecodedInstruction := by
  intro s i rest hs hdecode
  obtain ⟨-, -, hinstr, -⟩ := decode_eq_ok_iff.mp hdecode
  have hfetch : s.fetchInstr = i := hinstr
  refine ⟨?_, rfl, rfl, s.afterFetch_frame i⟩
  rw [step_of_running hs, hfetch]

/-- Settles O7. -/
theorem haltedStepCountsRefreshOnly : Obligations.HaltedStepCountsRefreshOnly := fun s hs =>
  ⟨if_pos hs, s.haltedStep, step_of_halted hs, hs, rfl, s.bumpR_frame 1⟩

end Sys2Proof.Machine
end

section
/-! SUPPORT and the obligations about the 8-bit loads (40_load8.md R200 to R228). One rule per operation on the state: an
instruction that completes with that operation alone has its effect and its frame. -/

namespace Sys2Proof.Machine

/-! ### What an instruction does that is one operation on the state -/

section
variable {i : Instr} {s : State} {cycles : Nat}

theorem does_of_setReg {r : Reg8} {v : Byte} (ht : instrT i s = cycles) (hexec : exec i s = .next (s.setReg r v)) :
    Does i s cycles [.reg r] (fun t => t.reg r = v) :=
  ⟨ht, _, hexec, by simp, s.setReg_frame r v⟩

theorem does_of_writeByte {a : Word} {v : Byte} (ht : instrT i s = cycles)
    (hexec : exec i s = .next (s.writeByte a v)) :
    Does i s cycles [.mem a] (fun t => t.readByte a = s.stored a v) :=
  ⟨ht, _, hexec, s.writeByte_readByte_same a v, s.writeByte_frame a v⟩

theorem does_of_setHalf {k : Index} {g : Half} {v : Byte} (ht : instrT i s = cycles)
    (hexec : exec i s = .next (s.setHalf k g v)) :
    Does i s cycles [Loc.index k] (fun t => t.half k g = v ∧ ∀ other, other ≠ g → t.half k other = s.half k other) :=
  ⟨ht, _, hexec, ⟨s.setHalf_half k g v, fun other => s.setHalf_half_other k g other v⟩, s.setHalf_frame k g v⟩

theorem does_of_putReg {r : Reg8} {res : Byte × Flags} (ht : instrT i s = cycles)
    (hexec : exec i s = .next (s.putReg r res)) :
    Does i s cycles (.reg r :: Loc.flags) (fun t => t.reg r = res.1 ∧ t.flags = res.2) :=
  ⟨ht, _, hexec, by simp [State.putReg], s.putReg_frame r res⟩

end

/-! ### The obligations -/

/-- Settles O28: each form is a register write of what its source holds. -/
theorem loadsOfRegisters : Obligations.LoadsOfRegisters := by
  intro s dst src n d nn g
  refine ⟨?_, ?_, ?_, ?_, ?_, ?_, ?_, ?_, ?_, ?_⟩ <;> exact does_of_setReg rfl rfl

/-- Settles O29: each form is a byte write at its address. -/
theorem storesOfBytes : Obligations.StoresOfBytes := by
  intro s src n d nn stores
  refine ⟨?_, ?_, ?_, ?_, ?_, ?_, ?_, ?_, ?_⟩ <;> exact does_of_writeByte rfl rfl

/-- Settles O30: each form is a write of one half, which keeps the other. -/
theorem loadsOfIndexHalves : Obligations.LoadsOfIndexHalves := by
  intro s g h src n loads
  refine ⟨?_, ?_, ?_, ?_, ?_, ?_⟩ <;> exact does_of_setHalf rfl rfl

/-- Settles O31: the loads of A write it with the flags of `loadIrFlags`, the loads of I and R write those alone. -/
theorem loadsOfInterruptAndRefresh : Obligations.LoadsOfInterruptAndRefresh := by
  intro s toA
  refine ⟨?fromI, ?fromR, ?toI, ?toR⟩
  case fromI => exact does_of_putReg (res := (_, loadIrFlags s.regI s.iff2 s.flags)) rfl rfl
  case fromR => exact does_of_putReg (res := (_, loadIrFlags s.regR s.iff2 s.flags)) rfl rfl
  case toI => exact ⟨rfl, _, rfl, s.setI_regI _, s.setI_frame _⟩
  case toR => exact ⟨rfl, _, rfl, s.setR_regR _, s.setR_frame _⟩

end Sys2Proof.Machine
end

section
/-! SUPPORT and the obligations about the 16-bit loads (41_load16.md R260 to R279). As for the 8-bit loads: one rule per
operation on the state, for an instruction that completes with that operation alone. -/

namespace Sys2Proof.Machine

/-! ### The bytes of a word (00_scope.md R6) -/

theorem loByte_eq_setWidth (v : Word) : loByte v = v.setWidth 8 := (BitVec.setWidth_eq_extractLsb' (by decide)).symm

theorem hiByte_eq_setWidth (v : Word) : hiByte v = (v >>> 8).setWidth 8 :=
  BitVec.setWidth_ushiftRight_eq_extractLsb.symm

/-! ### A pair or an index register written leaves SP -/

@[simp] theorem State.setStackPair_sp (s : State) (p : StackPair) (v : Word) : (s.setStackPair p v).sp = s.sp := by
  cases p <;> simp [State.setStackPair, State.setBc, State.setDe, State.setHl, State.setAf]

@[simp] theorem State.setIndex_sp (s : State) (k : Index) (v : Word) : (s.setIndex k v).sp = s.sp := by
  cases k <;> rfl

/-! ### What an instruction does that is one operation on the state -/

section
variable {i : Instr} {s : State} {cycles : Nat} {v : Word}

theorem does_of_setPair {p : Pair} (ht : instrT i s = cycles) (hexec : exec i s = .next (s.setPair p v)) :
    Does i s cycles (Loc.pair p) (fun t => t.pair p = v) :=
  ⟨ht, _, hexec, s.setPair_pair p v, s.setPair_frame p v⟩

theorem does_of_setIndex {k : Index} (ht : instrT i s = cycles) (hexec : exec i s = .next (s.setIndex k v)) :
    Does i s cycles [Loc.index k] (fun t => t.index k = v) :=
  ⟨ht, _, hexec, s.setIndex_index k v, s.setIndex_frame k v⟩

theorem does_of_setSp (ht : instrT i s = cycles) (hexec : exec i s = .next (s.setSp v)) :
    Does i s cycles [.sp] (fun t => t.sp = v) :=
  ⟨ht, _, hexec, rfl, s.setSp_frame v⟩

theorem does_of_setHl {hi lo : Byte} (ht : instrT i s = cycles)
    (hexec : exec i s = .next (s.setHl (joinBytes hi lo))) :
    Does i s cycles [.reg .h, .reg .l] (fun t => t.reg .l = lo ∧ t.reg .h = hi) :=
  ⟨ht, _, hexec, by simp [State.setHl, hiByte_join, loByte_join], s.setHl_frame _⟩

theorem does_of_writeWord {a : Word} (ht : instrT i s = cycles) (hexec : exec i s = .next (s.writeWord a v)) :
    Does i s cycles [.mem a, .mem (a + 1)] (fun t =>
      t.readByte a = s.stored a (v.setWidth 8) ∧ t.readByte (a + 1) = s.stored (a + 1) ((v >>> 8).setWidth 8)) := by
  refine ⟨ht, _, hexec, ⟨?low, ?high⟩, s.writeWord_frame a v⟩
  case low => rw [State.writeWord_readByte, if_pos rfl, loByte_eq_setWidth]
  case high => rw [State.writeWord_readByte, if_neg (Word.succ_ne a), if_pos rfl, hiByte_eq_setWidth]

theorem does_of_push16 (ht : instrT i s = cycles) (hexec : exec i s = .next (s.push16 v)) :
    Does i s cycles s.pushLocs (s.Pushed v) :=
  ⟨ht, _, hexec, s.push16_pushed v, s.push16_frame v⟩

/-- A pop into a pair of the rp2 table: writing the pair leaves SP as the pop left it (20_memory.md R89). -/
theorem does_of_popStackPair {p : StackPair} (ht : instrT i s = cycles)
    (hexec : exec i s = .next (s.dropTop.setStackPair p s.top)) :
    Does i s cycles (.sp :: Loc.stackPair p) (fun t => t.stackPair p = s.top ∧ t.sp = s.sp + 2) :=
  ⟨ht, _, hexec, ⟨s.dropTop.setStackPair_stackPair p _, s.dropTop.setStackPair_sp p _⟩,
    (s.setSp_frame _).trans (s.dropTop.setStackPair_frame p _)⟩

/-- A pop into an index register (20_memory.md R89). -/
theorem does_of_popIndex {k : Index} (ht : instrT i s = cycles)
    (hexec : exec i s = .next (s.dropTop.setIndex k s.top)) :
    Does i s cycles [.sp, Loc.index k] (fun t => t.index k = s.top ∧ t.sp = s.sp + 2) :=
  ⟨ht, _, hexec, ⟨s.dropTop.setIndex_index k _, s.dropTop.setIndex_sp k _⟩,
    (s.setSp_frame _).trans (s.dropTop.setIndex_frame k _)⟩

end

/-! ### The obligations -/

/-- Settles O32: each form writes one pair, index register or SP; LD HL,(nn) is stated by the two bytes read. -/
theorem loadsOfPairs : Obligations.LoadsOfPairs := fun _ _ _ =>
  ⟨does_of_setPair rfl rfl, does_of_setIndex (k := .ix) rfl rfl, does_of_setIndex (k := .iy) rfl rfl,
    does_of_setHl rfl rfl, does_of_setPair rfl rfl, does_of_setIndex (k := .ix) rfl rfl,
    does_of_setIndex (k := .iy) rfl rfl, does_of_setSp rfl rfl, does_of_setSp rfl rfl, does_of_setSp rfl rfl⟩

/-- Settles O33: each form is a word write. -/
theorem storesOfWords : Obligations.StoresOfWords := by
  intro s nn dd stores
  exact ⟨does_of_writeWord rfl rfl, does_of_writeWord rfl rfl, does_of_writeWord rfl rfl, does_of_writeWord rfl rfl⟩

/-- Settles O34: each form is a push of its pair; the statement's match on the pair is `State.stackPair`. -/
theorem pushes : Obligations.Pushes := by
  intro s qq
  refine ⟨?pair, does_of_push16 rfl rfl, does_of_push16 rfl rfl⟩
  case pair => cases qq <;> exact does_of_push16 rfl rfl

/-- Settles O35: each form is a pop into its register, and what it pops is the two bytes at SP. -/
theorem pops : Obligations.Pops := fun _ _ =>
  ⟨does_of_popStackPair rfl rfl, does_of_popIndex (k := .ix) rfl rfl, does_of_popIndex (k := .iy) rfl rfl⟩

end Sys2Proof.Machine
end

section
/-! SUPPORT and the obligations about the exchanges (42_exchange_block.md R300 to R305): what a switch of banks may change,
and the exchange of a register with the word at SP. -/

namespace Sys2Proof.Machine

variable (s : State)

theorem State.swapAf_frame :
    s.SameBut (.selAf :: .reg .a :: .altReg .a :: .altF :: Loc.flags) s.swapAf := by
  intro l hl
  cases l with
  | flag name => cases name <;> simp [Loc.flags] at hl
  | _ => simp_all [Loc.sameAt]

theorem State.swapGp_frame :
    s.SameBut (.selGp :: ([.b, .c, .d, .e, .h, .l] : List Reg8).flatMap fun r => [.reg r, .altReg r]) s.swapGp := by
  intro l hl
  cases l with
  | reg r => cases r <;> simp_all [Loc.sameAt]
  | altReg r => cases r <;> simp_all [Loc.sameAt]
  | flag name => rfl
  | _ => simp_all [Loc.sameAt]

/-- The word `get s` is written at SP, then what leads to `t` changes no byte of memory and lets `get` read the old word:
the two bytes keep what the word write gave them (R303). -/
theorem does_of_exchangeTop {i : Instr} {s t : State} {cycles : Nat} {ls : List Loc} {get : State → Word}
    (ht : instrT i s = cycles) (hexec : exec i s = .next t) (hget : get t = s.readWord s.sp)
    (hframe : (s.writeWord s.sp (get s)).SameBut ls t) (hls : ∀ a, Loc.mem a ∉ ls) :
    Does i s cycles (.mem s.sp :: .mem (s.sp + 1) :: ls) (fun t =>
      get t = s.readByte (s.sp + 1) ++ s.readByte s.sp
      ∧ t.readByte s.sp = s.stored s.sp ((get s).setWidth 8)
      ∧ t.readByte (s.sp + 1) = s.stored (s.sp + 1) ((get s >>> 8).setWidth 8)) := by
  have hread (a : Word) : t.readByte a = (s.writeWord s.sp (get s)).readByte a := hframe (.mem a) (hls a)
  refine ⟨ht, t, hexec, ⟨hget, ?low, ?high⟩, (s.writeWord_frame s.sp (get s)).trans hframe⟩
  case low => rw [hread, State.writeWord_readByte, if_pos rfl, loByte_eq_setWidth]
  case high => rw [hread, State.writeWord_readByte, if_neg (Word.succ_ne _), if_pos rfl, hiByte_eq_setWidth]

/-- Settles O36: EX DE,HL writes both pairs, the other two switch a bank. -/
theorem registerExchanges : Obligations.RegisterExchanges := by
  intro s
  refine ⟨⟨rfl, _, rfl, ?pairs, (s.setDe_frame _).trans ((s.setDe _).setHl_frame _)⟩,
    ⟨rfl, s.swapAf, rfl, ⟨rfl, ?bankAf⟩, s.swapAf_frame⟩, ⟨rfl, s.swapGp, rfl, ⟨rfl, ?bankGp⟩, s.swapGp_frame⟩⟩
  case pairs => simp
  case bankAf => simp
  case bankGp => intro r hr; simp [hr]

/-- Settles O37: each form is a word write at SP followed by a write of its register. -/
theorem stackExchanges : Obligations.StackExchanges := by
  intro s exchanges
  exact ⟨does_of_exchangeTop rfl rfl (State.setHl_hl _ _) (State.setHl_frame _ _) (by simp),
    does_of_exchangeTop rfl rfl rfl (State.setIx_frame _ _) (by simp),
    does_of_exchangeTop rfl rfl rfl (State.setIy_frame _ _) (by simp)⟩

end Sys2Proof.Machine
end

section
/-! SUPPORT and the obligations about the block transfers and searches (42_exchange_block.md R306 to R314): the effect and
the frame of one element, and the repeat rule on top of them. A form that does not repeat is the repeat rule with the
condition false. -/

namespace Sys2Proof.Machine

/-! ### The repeat rule (R306) -/

section
variable (s : State) (again : Bool)

@[simp] theorem State.repeatIf_pc : (s.repeatIf again).pc = if again then s.pc - 2 else s.pc := by cases again <;> rfl

@[simp] theorem State.repeatIf_bc : (s.repeatIf again).bc = s.bc := by cases again <;> rfl

@[simp] theorem State.repeatIf_de : (s.repeatIf again).de = s.de := by cases again <;> rfl

@[simp] theorem State.repeatIf_hl : (s.repeatIf again).hl = s.hl := by cases again <;> rfl

@[simp] theorem State.repeatIf_flags : (s.repeatIf again).flags = s.flags := by cases again <;> rfl

@[simp] theorem State.repeatIf_flag (name : FlagName) : (s.repeatIf again).flag name = s.flag name := by
  cases again <;> rfl

@[simp] theorem State.repeatIf_readByte (a : Word) : (s.repeatIf again).readByte a = s.readByte a := by
  cases again <;> rfl

end

/-! ### Conditions and differences as the statements write them -/

theorem bne_eq_decide_ne {w : Nat} (a b : BitVec w) : (a != b) = decide (a ≠ b) := by
  rw [bne, beq_eq_decide, decide_not]

/-- An exact difference narrowed to a byte is the difference modulo 256 (00_scope.md R7). -/
theorem narrowed_sub (a b : Byte) : BitVec.ofInt 8 ((a.toNat : Int) - (b.toNat : Int)) = a - b := by
  apply BitVec.eq_of_toNat_eq
  rw [BitVec.toNat_ofInt, BitVec.toNat_sub]
  omega

/-! ### One element of a transfer (R307, R309) -/

/-- The flags of R307 with the sum of bytes. -/
theorem blockMoveFlags_eq (v a : Byte) (bc : Word) (old : Flags) :
    blockMoveFlags v a bc old =
      { old with h := false, n := false, pv := decide (bc ≠ 0), y := (v + a).getLsbD 1, x := (v + a).getLsbD 3 } := by
  rw [← bne_eq_decide_ne]; rfl

/-- The places the flags of R307 are computed for; S, Z and C are kept. -/
def Loc.moveFlags : List Loc := [.flag .y, .flag .h, .flag .x, .flag .pv, .flag .n]

/-- The places one element of a transfer may change. -/
def State.moveLocs (s : State) : List Loc :=
  [.mem s.de, .reg .h, .reg .l, .reg .d, .reg .e, .reg .b, .reg .c] ++ Loc.moveFlags

section
variable (s : State) (dir : Direction)

theorem State.setBlockMoveFlags_frame {old : Flags} (hold : s.flags = old) (v a : Byte) (bc : Word) :
    s.SameBut Loc.moveFlags (s.setFlags (blockMoveFlags v a bc old)) := by
  subst hold
  intro l hl
  cases l with
  | flag name => cases name <;> simp_all [Loc.moveFlags, Loc.sameAt, blockMoveFlags, Flags.get, State.flag]
  | _ => simp [Loc.sameAt]

@[simp] theorem State.blockMove_pc : (s.blockMove dir).pc = s.pc := by
  simp [State.blockMove, State.setHl, State.setDe, State.setBc]

@[simp] theorem State.blockMove_bc : (s.blockMove dir).bc = s.bc - 1 := by simp [State.blockMove]

@[simp] theorem State.blockMove_de : (s.blockMove dir).de = s.de + dir.step := by simp [State.blockMove]

@[simp] theorem State.blockMove_hl : (s.blockMove dir).hl = s.hl + dir.step := by simp [State.blockMove]

@[simp] theorem State.blockMove_flags :
    (s.blockMove dir).flags = blockMoveFlags (s.readByte s.hl) (s.reg .a) (s.bc - 1) s.flags := by
  simp [State.blockMove]

@[simp] theorem State.blockMove_readByte_de :
    (s.blockMove dir).readByte s.de = s.stored s.de (s.readByte s.hl) := by
  simp [State.blockMove, State.setHl, State.setDe, State.setBc]

theorem State.blockMove_frame : s.SameBut s.moveLocs (s.blockMove dir) := by
  refine State.SameBut.trans ?stepped (State.setBlockMoveFlags_frame _ ?flags _ _ _)
  case stepped =>
    exact (((s.writeByte_frame _ _).trans (State.setHl_frame _ _)).trans (State.setDe_frame _ _)).trans
      (State.setBc_frame _ _)
  case flags => simp [State.setHl, State.setDe, State.setBc]

end

/-- LDIR and LDDR test BC as the element left it (R308, R310). -/
theorem State.blockMove_again (s : State) (dir : Direction) : ((s.blockMove dir).bc != 0) = decide (s.bc - 1 ≠ 0) := by
  rw [State.blockMove_bc, bne_eq_decide_ne]

theorem does_of_blockMove {i : Instr} {s : State} {cond again : Bool} (dir : Direction) (hcond : cond = again)
    (ht : instrT i s = repeatT cond) (hexec : exec i s = .next ((s.blockMove dir).repeatIf cond)) :
    Does i s (if again then 21 else 16)
      [.mem s.de, .reg .b, .reg .c, .reg .d, .reg .e, .reg .h, .reg .l, .pc,
        .flag .y, .flag .h, .flag .x, .flag .pv, .flag .n]
      (fun t => t.readByte s.de = s.stored s.de (s.readByte s.hl) ∧ t.hl = s.hl + dir.step ∧ t.de = s.de + dir.step
        ∧ t.bc = s.bc - 1 ∧ t.flag .h = false ∧ t.flag .n = false ∧ t.flag .pv = decide (s.bc - 1 ≠ 0)
        ∧ t.flag .y = (s.readByte s.hl + s.reg .a).getLsbD 1 ∧ t.flag .x = (s.readByte s.hl + s.reg .a).getLsbD 3
        ∧ t.pc = if again then s.pc - 2 else s.pc) := by
  subst hcond
  refine ⟨ht, _, hexec, ?effect, (s.blockMove_frame dir).andThen (State.repeatIf_frame _ _) ?element ?pc⟩
  case effect => simp [State.flag, blockMoveFlags_eq, Flags.get]
  case element => simp [State.moveLocs, Loc.moveFlags]
  case pc => simp

/-! ### One element of a search (R311, R313) -/

section
variable (s : State) (dir : Direction)

@[simp] theorem State.blockCompare_pc : (s.blockCompare dir).pc = s.pc := by
  simp [State.blockCompare, State.setHl, State.setBc]

@[simp] theorem State.blockCompare_bc : (s.blockCompare dir).bc = s.bc - 1 := by simp [State.blockCompare]

@[simp] theorem State.blockCompare_hl : (s.blockCompare dir).hl = s.hl + dir.step := by simp [State.blockCompare]

@[simp] theorem State.blockCompare_flags :
    (s.blockCompare dir).flags = blockCompareFlags (s.reg .a) (s.readByte s.hl) (s.bc - 1) s.flags := by
  simp [State.blockCompare]

theorem State.blockCompare_frame :
    s.SameBut ([.reg .h, .reg .l, .reg .b, .reg .c] ++ Loc.flags) (s.blockCompare dir) :=
  ((s.setHl_frame _).trans (State.setBc_frame _ _)).trans (State.setFlags_frame _ _)

end

/-- CPIR and CPDR test BC as the element left it, and A against the byte compared (R312, R314). -/
theorem State.blockCompare_again (s : State) (dir : Direction) :
    ((s.blockCompare dir).bc != 0 && s.reg .a != s.readByte s.hl)
      = decide (s.bc - 1 ≠ 0 ∧ s.reg .a ≠ s.readByte s.hl) := by
  rw [State.blockCompare_bc, bne_eq_decide_ne, bne_eq_decide_ne, Bool.decide_and]

/-- The flags of R311 with differences of bytes: Y and X come from `r`, less 1 when H is set. -/
theorem blockCompareFlags_eq (a v : Byte) (bc : Word) (old : Flags) :
    let r := a - v
    let h := decide (a.toNat % 16 < v.toNat % 16)
    let k := if h then r - 1 else r
    blockCompareFlags a v bc old =
      { s := r.getLsbD 7, z := decide (r = 0), y := k.getLsbD 1, h := h, x := k.getLsbD 3, pv := decide (bc ≠ 0),
        n := true, c := old.c } := by
  intro r h k
  have hk : BitVec.ofInt 8 ((r.toNat : Int) - (bitNat h : Int)) = k := by
    simp only [k]
    cases h with
    | false => exact (narrowed_sub r 0).trans (sub_zero r)
    | true => exact narrowed_sub r 1
  rw [← hk, ← bne_eq_decide_ne]
  simp only [blockCompareFlags, narrowed_sub]
  rfl

theorem does_of_blockCompare {i : Instr} {s : State} {cond again : Bool} {fl : Flags} (dir : Direction)
    (hfl : blockCompareFlags (s.reg .a) (s.readByte s.hl) (s.bc - 1) s.flags = fl) (hcond : cond = again)
    (ht : instrT i s = repeatT cond) (hexec : exec i s = .next ((s.blockCompare dir).repeatIf cond)) :
    Does i s (if again then 21 else 16) (.reg .b :: .reg .c :: .reg .h :: .reg .l :: .pc :: Loc.flags)
      (fun t => t.hl = s.hl + dir.step ∧ t.bc = s.bc - 1 ∧ t.flags = fl ∧ t.pc = if again then s.pc - 2 else s.pc) := by
  subst hcond hfl
  refine ⟨ht, _, hexec, by simp, (s.blockCompare_frame dir).andThen (State.repeatIf_frame _ _) ?element ?pc⟩
  case element => simp [Loc.flags]
  case pc => simp

/-! ### The obligations -/

/-- Settles O38: each form is one element and the repeat rule. -/
theorem blockTransfers : Obligations.BlockTransfers := by
  intro s v left k moves
  exact ⟨does_of_blockMove .up rfl rfl rfl, does_of_blockMove .up (s.blockMove_again .up) rfl rfl,
    does_of_blockMove .down rfl rfl rfl, does_of_blockMove .down (s.blockMove_again .down) rfl rfl⟩

/-- Settles O39: each form is one element and the repeat rule, with the flags of `blockCompareFlags_eq`. -/
theorem blockSearches : Obligations.BlockSearches := by
  intro s v left r h k searches
  have hfl := blockCompareFlags_eq (s.reg .a) v left s.flags
  exact ⟨does_of_blockCompare .up hfl rfl rfl rfl,
    does_of_blockCompare .up hfl (s.blockCompare_again .up) rfl rfl,
    does_of_blockCompare .down hfl rfl rfl rfl,
    does_of_blockCompare .down hfl (s.blockCompare_again .down) rfl rfl⟩

end Sys2Proof.Machine
end

section
/-! SUPPORT and the obligations about 8-bit arithmetic and logic (43_alu8.md R338 to R407). An accumulator operation or
a count writes its flags and one place, a register, a byte of memory or an index half; CP writes its flags alone. -/

namespace Sys2Proof.Machine

/-! ### What the logical class and the counts answer, written out -/

/-- The flags of R35 and R36 with the test for zero as the statements write it. -/
theorem logicFlags_eq (r : Byte) (h : Bool) :
    logicFlags r h = { s := r.getLsbD 7, z := decide (r = 0), y := r.getLsbD 5, h := h, x := r.getLsbD 3,
                       pv := parity r, n := false, c := false } := by
  rw [← beq_eq_decide]; rfl

/-- `Inc8` (R37): the count modulo 256 is 0 after 0xFF alone. -/
theorem inc8_eq (v : Byte) (old : Flags) :
    inc8 v old = (v + 1, {
      s := (v + 1).getLsbD 7, z := decide (v = 0xFF), y := (v + 1).getLsbD 5, h := decide (v.toNat % 16 = 15),
      x := (v + 1).getLsbD 3, pv := decide (v = 0x7F), n := false, c := old.c }) := by
  have hcount : BitVec.ofNat 8 (v.toNat + 1) = v + 1 := BitVec.eq_of_toNat_eq (by simp)
  have hz : v + 1 = 0 ↔ v = 0xFF := by bv_omega
  simp only [inc8, hcount, beq_eq_decide, hz]

/-- `Dec8` (R37): the count modulo 256 is 0 after 0x01 alone. -/
theorem dec8_eq (v : Byte) (old : Flags) :
    dec8 v old = (v - 1, {
      s := (v - 1).getLsbD 7, z := decide (v = 0x01), y := (v - 1).getLsbD 5, h := decide (v.toNat % 16 = 0),
      x := (v - 1).getLsbD 3, pv := decide (v = 0x80), n := true, c := old.c }) := by
  have hcount : BitVec.ofInt 8 ((v.toNat : Int) - 1) = v - 1 := narrowed_sub v 1
  have hz : v - 1 = 0 ↔ v = 0x01 := sub_eq_zero
  simp only [dec8, hcount, beq_eq_decide, hz]

/-! ### A half of an index register, and the flags -/

section
variable (s : State) (k : Index)

@[simp] theorem State.setIndex_flags (v : Word) : (s.setIndex k v).flags = s.flags := by cases k <;> rfl

@[simp] theorem State.setHalf_flags (g : Half) (v : Byte) : (s.setHalf k g v).flags = s.flags := by
  cases g <;> exact s.setIndex_flags k _

@[simp] theorem State.setFlags_half (fl : Flags) (g : Half) : (s.setFlags fl).half k g = s.half k g := by
  cases g <;> simp [State.half]

end

/-! ### What an instruction does that is one operation on the state -/

section
variable {i : Instr} {s : State} {cycles : Nat} {out : Byte × Flags} {v : Byte} {fl : Flags}

theorem does_of_setFlags (ht : instrT i s = cycles) (hexec : exec i s = .next (s.setFlags fl)) :
    Does i s cycles Loc.flags (fun t => t.flags = fl) :=
  ⟨ht, _, hexec, s.setFlags_flags fl, s.setFlags_frame fl⟩

/-- `does_of_putReg` for an operation whose answer is known as a value and flags. -/
theorem does_of_putReg_pair {r : Reg8} (hout : out = (v, fl)) (ht : instrT i s = cycles)
    (hexec : exec i s = .next (s.putReg r out)) :
    Does i s cycles (.reg r :: Loc.flags) (fun t => t.reg r = v ∧ t.flags = fl) := by
  subst hout
  exact does_of_putReg ht hexec

theorem does_of_putMem {a : Word} (hout : out = (v, fl)) (ht : instrT i s = cycles)
    (hexec : exec i s = .next (s.putMem a out)) :
    Does i s cycles (.mem a :: Loc.flags) (fun t => t.readByte a = s.stored a v ∧ t.flags = fl) := by
  subst hout
  exact ⟨ht, _, hexec, by simp [State.putMem, State.stored], s.putMem_frame a _⟩

theorem does_of_putHalf {k : Index} {g : Half} (hout : out = (v, fl)) (ht : instrT i s = cycles)
    (hexec : exec i s = .next (s.putHalf k g out)) :
    Does i s cycles (Loc.index k :: Loc.flags) (fun t => t.half k g = v ∧ t.flags = fl
      ∧ ∀ other, other ≠ g → t.half k other = s.half k other) := by
  subst hout
  refine ⟨ht, _, hexec, ⟨?half, ?flags, ?other⟩, s.putHalf_frame k g _⟩
  case half => exact State.setHalf_half _ k g v
  case flags => simp [State.putHalf]
  case other => intro other hne; rw [State.putHalf, State.setHalf_half_other _ k g other v hne, State.setFlags_half]

/-- An operation of the logical class on A (R35, R36). -/
theorem does_of_logic {h : Bool} (ht : instrT i s = cycles)
    (hexec : exec i s = .next (s.putReg .a (v, logicFlags v h))) :
    Does i s cycles (.reg .a :: Loc.flags) (fun t => t.reg .a = v
      ∧ t.flags = { s := v.getLsbD 7, z := decide (v = 0), y := v.getLsbD 5, h := h, x := v.getLsbD 3,
                    pv := parity v, n := false, c := false }) :=
  does_of_putReg_pair (congrArg (Prod.mk v) (logicFlags_eq v h)) ht hexec

end

/-! ### The obligations -/

/-- Settles O40: each form writes A and the flags with `add8` of its operand, without or with the carry. -/
theorem additions : Obligations.Additions := by
  intro s r n d g sums
  refine ⟨?_, ?_, ?_, ?_, ?_, ?_, ?_, ?_, ?_, ?_, ?_, ?_, ?_, ?_⟩ <;> exact does_of_putReg rfl rfl

/-- Settles O41: each form writes A and the flags with `sub8` of its operand, without or with the borrow. -/
theorem subtractions : Obligations.Subtractions := by
  intro s r n d g differences
  refine ⟨?_, ?_, ?_, ?_, ?_, ?_, ?_, ?_, ?_, ?_, ?_, ?_, ?_, ?_⟩ <;> exact does_of_putReg rfl rfl

/-- Settles O42: each form is an operation of the logical class on A and its operand. -/
theorem logicalOperations : Obligations.LogicalOperations := by
  intro s r n d g logic a mx my
  refine ⟨?_, ?_, ?_, ?_, ?_, ?_, ?_, ?_, ?_, ?_, ?_, ?_, ?_, ?_, ?_, ?_, ?_, ?_, ?_, ?_, ?_⟩
    <;> exact does_of_logic rfl rfl

/-- Settles O43: each form writes the flags of `cp8` and nothing else. -/
theorem compares : Obligations.Compares := by
  intro s r n d g compares
  refine ⟨?_, ?_, ?_, ?_, ?_, ?_, ?_⟩ <;> exact does_of_setFlags rfl rfl

/-- Settles O44: each form writes its place and the flags with `inc8` or `dec8` of what the place held. -/
theorem incrementsAndDecrements : Obligations.IncrementsAndDecrements := by
  intro s r d g flagsUp flagsDown register memory half ax ay
  have up (v : Byte) : inc8 v s.flags = (v + 1, flagsUp v) := inc8_eq v s.flags
  have down (v : Byte) : dec8 v s.flags = (v - 1, flagsDown v) := dec8_eq v s.flags
  exact ⟨does_of_putReg_pair (up _) rfl rfl,
    does_of_putMem (up _) rfl rfl, does_of_putMem (up _) rfl rfl, does_of_putMem (up _) rfl rfl,
    does_of_putHalf (k := .ix) (up _) rfl rfl, does_of_putHalf (k := .iy) (up _) rfl rfl,
    does_of_putReg_pair (down _) rfl rfl,
    does_of_putMem (down _) rfl rfl, does_of_putMem (down _) rfl rfl, does_of_putMem (down _) rfl rfl,
    does_of_putHalf (k := .ix) (down _) rfl rfl, does_of_putHalf (k := .iy) (down _) rfl rfl⟩

end Sys2Proof.Machine
end

section
/-! SUPPORT and the obligations about general-purpose arithmetic and CPU control (44_control.md R420 to R433): DAA written
out, its decimal meaning after an addition and a subtraction, and the instructions that write only some flags or none. -/

namespace Sys2Proof.Machine

/-! ### The decimal adjust (R420) -/

/-- What DAA adds or subtracts: 6 in each digit that needs it (R420). -/
def decimalCorrection (lo hi : Prop) [Decidable lo] [Decidable hi] : Byte :=
  (if lo then 0x06 else 0x00) ||| (if hi then 0x60 else 0x00)

theorem toNat_decimalCorrection (lo hi : Prop) [Decidable lo] [Decidable hi] :
    (decimalCorrection lo hi).toNat = (if lo then 0x06 else 0x00) + (if hi then 0x60 else 0x00) := by
  unfold decimalCorrection
  split_ifs <;> rfl

theorem bitNat_decide (p : Prop) [Decidable p] : bitNat (decide p) = if p then 1 else 0 := by
  simp only [bitNat, decide_eq_true_eq]

/-- An exact sum narrowed to a byte is the sum modulo 256 (00_scope.md R7). -/
theorem narrowed_add (a b : Byte) : BitVec.ofNat 8 (a.toNat + b.toNat) = a + b := BitVec.eq_of_toNat_eq (by simp)

/-- DAA with its correction named and the sum and difference taken modulo 256. -/
theorem daaAdjust_eq (a : Byte) (old : Flags) :
    let lo := a.toNat % 16
    let carry := decide (old.c = true ∨ 0x99 < a.toNat)
    let diff := decimalCorrection (old.h = true ∨ 9 < lo) (carry = true)
    let adjusted := if old.n then a - diff else a + diff
    daaAdjust a old = (adjusted, {
      s := adjusted.getLsbD 7, z := decide (adjusted = 0), y := adjusted.getLsbD 5,
      h := if old.n then old.h && decide (lo < 6) else decide (9 < lo), x := adjusted.getLsbD 3,
      pv := parity adjusted, n := old.n, c := carry }) := by
  intro lo carry diff adjusted
  have hdiff : (if carry then (if old.h = true ∨ 9 < lo then 0x06 else 0x00) ||| 0x60
      else (if old.h = true ∨ 9 < lo then 0x06 else 0x00) : Byte) = diff := by
    cases h : carry <;> simp [diff, decimalCorrection, h]
  have hres : (if old.n then BitVec.ofInt 8 ((a.toNat : Int) - (diff.toNat : Int))
      else BitVec.ofNat 8 (a.toNat + diff.toNat)) = adjusted := by
    rw [narrowed_sub, narrowed_add]
  rw [← hres, ← hdiff, ← beq_eq_decide]
  rfl

/-- The corrected byte and its carry, where what decides the two corrections is known (R420). -/
theorem daaAdjust_of_iff {a : Byte} {old : Flags} {lo hi : Prop} [Decidable lo] [Decidable hi]
    (hlo : old.h = true ∨ 9 < a.toNat % 16 ↔ lo) (hhi : old.c = true ∨ 0x99 < a.toNat ↔ hi) :
    (daaAdjust a old).1 = (if old.n then a - decimalCorrection lo hi else a + decimalCorrection lo hi)
      ∧ (daaAdjust a old).2.c = decide hi := by
  simp only [daaAdjust_eq, hlo, hhi, decide_eq_true_eq, and_self]

section
variable {a b : Byte} (c : Bool)

/-- After an addition of bytes whose low digits are decimal, the corrected digits are those up to which the exact sum is
too large for decimal digits, whether or not it carried out in binary. -/
theorem daaAdjust_add8 (ha : a.toNat % 16 ≤ 9) (hb : b.toNat % 16 ≤ 9) :
    let low := a.toNat % 16 + b.toNat % 16 + bitNat c
    let total := a.toNat + b.toNat + bitNat c
    let adjusted := daaAdjust (add8 a b c).1 (add8 a b c).2
    adjusted.1.toNat = (total + ((if 9 < low then 0x06 else 0x00) + (if 0x99 < total then 0x60 else 0x00))) % 256
      ∧ adjusted.2.c = decide (0x99 < total) := by
  intro low total adjusted
  have hcin := bitNat_le_one c
  obtain ⟨⟨hres, hc, hh, -, -, -, hn, -, -⟩, -⟩ := addSubtractFlags a b c
  obtain ⟨hadjusted, hcarry⟩ := daaAdjust_of_iff (a := (add8 a b c).1) (old := (add8 a b c).2)
    (lo := 9 < low) (hi := 0x99 < total) (by rw [hh, hres]; omega) (by rw [hc, hres]; omega)
  rw [hn, if_neg Bool.false_ne_true] at hadjusted
  refine ⟨?_, hcarry⟩
  rw [hadjusted, BitVec.toNat_add, toNat_decimalCorrection, hres, Nat.mod_add_mod]

/-- After a subtraction of decimal digits the corrected digits are those up to which the exact difference is negative. -/
theorem daaAdjust_sub8 (ha : a.toNat / 16 ≤ 9) (ha' : a.toNat % 16 ≤ 9) (hb' : b.toNat % 16 ≤ 9) :
    let lowBorrow := a.toNat % 16 < b.toNat % 16 + bitNat c
    let borrow := a.toNat < b.toNat + bitNat c
    let adjusted := daaAdjust (sub8 a b c).1 (sub8 a b c).2
    adjusted.1.toNat = (a.toNat + 768 - b.toNat - bitNat c
        - ((if lowBorrow then 0x06 else 0x00) + (if borrow then 0x60 else 0x00))) % 256
      ∧ adjusted.2.c = decide borrow := by
  intro lowBorrow borrow adjusted
  have hcin := bitNat_le_one c
  obtain ⟨-, hres, hc, hh, -, -, -, hn, -, -⟩ := addSubtractFlags a b c
  obtain ⟨hadjusted, hcarry⟩ := daaAdjust_of_iff (a := (sub8 a b c).1) (old := (sub8 a b c).2)
    (lo := lowBorrow) (hi := borrow) (by rw [hh, hres]; omega) (by rw [hc, hres]; omega)
  rw [hn, if_pos rfl] at hadjusted
  refine ⟨?_, hcarry⟩
  rw [hadjusted, BitVec.toNat_sub, toNat_decimalCorrection, hres]
  split_ifs <;> omega

end

/-! ### NEG (R422) -/

/-- A subtraction from 0: it borrows unless A is 0 and overflows for 0x80 alone. -/
theorem sub8_zero_eq (a : Byte) :
    sub8 0 a false = (-a, {
      s := (-a).getLsbD 7, z := decide (a = 0), y := (-a).getLsbD 5, h := decide (a.toNat % 16 ≠ 0),
      x := (-a).getLsbD 3, pv := decide (a = 0x80), n := true, c := decide (a ≠ 0) }) := by
  have hres : (sub8 0 a false).1 = -a := by
    rw [← zero_sub a, ← narrowed_sub 0 a, ← sub_zero (((0 : Byte).toNat : Int) - a.toNat)]
    rfl
  obtain ⟨-, -, hc, hh, hpv, -⟩ := addSubtractFlags 0 a false
  have hc' : (sub8 0 a false).2.c = decide (a ≠ 0) := by
    rw [Bool.eq_iff_iff, hc, decide_eq_true_iff]
    exact Nat.pos_iff_ne_zero.trans (BitVec.toNat_ne_iff_ne (x := a) (y := 0))
  have hh' : (sub8 0 a false).2.h = decide (a.toNat % 16 ≠ 0) := by
    rw [Bool.eq_iff_iff, hh, decide_eq_true_iff]
    exact Nat.pos_iff_ne_zero
  have hpv' : (sub8 0 a false).2.pv = decide (a = 0x80) := by
    have hrange := toInt_bounds a
    rw [Bool.eq_iff_iff, hpv, decide_eq_true_iff, ← BitVec.toInt_inj]
    show (0 : Int) - a.toInt - 0 < -128 ∨ 127 < (0 : Int) - a.toInt - 0 ↔ a.toInt = -128
    omega
  calc sub8 0 a false
      = ((sub8 0 a false).1, {
          s := (sub8 0 a false).1.getLsbD 7, z := (sub8 0 a false).1 == 0, y := (sub8 0 a false).1.getLsbD 5,
          h := (sub8 0 a false).2.h, x := (sub8 0 a false).1.getLsbD 3, pv := (sub8 0 a false).2.pv, n := true,
          c := (sub8 0 a false).2.c }) := rfl
    _ = _ := by rw [hres, hh', hpv', hc', beq_eq_decide]; simp only [neg_eq_zero]

/-! ### Writes of some of the flags -/

section
variable {i : Instr} {s : State} {cycles : Nat} {fl : Flags}

/-- Flags written as they were are no change. -/
theorem State.setFlags_frame_of_get {ls : List Loc}
    (hkept : ∀ name, Loc.flag name ∉ ls → fl.get name = s.flag name) : s.SameBut ls (s.setFlags fl) := by
  intro l hl
  cases l with
  | flag name => exact (s.setFlags_flag fl name).trans (hkept name hl)
  | _ => simp [Loc.sameAt]

/-- A write of the flags that keeps S, Z and PV (R423, R424). -/
theorem does_of_setFlags_keepingSzpv (ht : instrT i s = cycles) (hexec : exec i s = .next (s.setFlags fl))
    (hs : fl.s = s.flags.s) (hz : fl.z = s.flags.z) (hpv : fl.pv = s.flags.pv) :
    Does i s cycles [.flag .y, .flag .h, .flag .x, .flag .n, .flag .c] (fun t => t.flags = fl) := by
  refine ⟨ht, _, hexec, s.setFlags_flags fl, State.setFlags_frame_of_get fun name hname => ?_⟩
  cases name with
  | s => exact hs
  | z => exact hz
  | pv => exact hpv
  | _ => simp at hname

/-- A write of a register and the flags that keeps S, Z, PV and C (R421). -/
theorem does_of_putReg_keepingSzpvc {r : Reg8} {v : Byte} (ht : instrT i s = cycles)
    (hexec : exec i s = .next (s.putReg r (v, fl)))
    (hs : fl.s = s.flags.s) (hz : fl.z = s.flags.z) (hpv : fl.pv = s.flags.pv) (hc : fl.c = s.flags.c) :
    Does i s cycles [.reg r, .flag .y, .flag .h, .flag .x, .flag .n] (fun t => t.reg r = v ∧ t.flags = fl) := by
  refine ⟨ht, _, hexec, by simp [State.putReg], State.SameBut.andThen (ls₁ := [.flag .y, .flag .h, .flag .x, .flag .n])
    (State.setFlags_frame_of_get fun name hname => ?_) (State.setReg_frame _ r v) (by simp) (by simp)⟩
  cases name with
  | s => exact hs
  | z => exact hz
  | pv => exact hpv
  | c => exact hc
  | _ => simp at hname

/-- CPL with the exclusive or of 0xFF as the complement (R421). -/
theorem exec_cpl (s : State) :
    exec .cpl s = .next (s.putReg .a (~~~s.reg .a, { s.flags with
      h := true, n := true, y := !(s.reg .a).getLsbD 5, x := !(s.reg .a).getLsbD 3 })) := by
  have hnot : s.reg .a ^^^ 0xFF = ~~~s.reg .a := BitVec.xor_allOnes
  show Host.Outcome.next _ = _
  rw [hnot]
  simp [cplFlags]

/-- An instruction that completes with the state as it is. -/
theorem does_of_next_self (ht : instrT i s = cycles) (hexec : exec i s = .next s) :
    Does i s cycles [] (fun t => t = s) :=
  ⟨ht, s, hexec, rfl, State.SameBut.refl [] s⟩

theorem does_of_setIm {mode : IntMode} (ht : instrT i s = cycles) (hexec : exec i s = .next (s.setIm mode)) :
    Does i s cycles [.im] (fun t => t.im = mode) :=
  ⟨ht, _, hexec, s.setIm_im mode, s.setIm_frame mode⟩

theorem does_of_setIff {iff1 iff2 : Bool} (ht : instrT i s = cycles) (hexec : exec i s = .next (s.setIff iff1 iff2)) :
    Does i s cycles [.iff1, .iff2] (fun t => t.iff1 = iff1 ∧ t.iff2 = iff2) :=
  ⟨ht, _, hexec, ⟨rfl, rfl⟩, s.setIff_frame iff1 iff2⟩

end

/-! ### The obligations -/

/-- Settles O25: the corrections are known from `daaAdjust_add8` and `daaAdjust_sub8`, and in each of their cases the digits
and the carry or borrow are linear arithmetic. -/
theorem decimalAdjustIsDecimal : Obligations.DecimalAdjustIsDecimal := by
  intro a b c ha ha' hb hb' value sum diff
  have hcin := bitNat_le_one c
  obtain ⟨hsum, hcarry⟩ := daaAdjust_add8 c ha' hb'
  obtain ⟨hdiff, hborrow⟩ := daaAdjust_sub8 c ha ha' hb'
  obtain ⟨hvalue, hhigh, hlow⟩ : value sum.1 + 100 * bitNat sum.2.c = value a + value b + bitNat c
      ∧ sum.1.toNat / 16 ≤ 9 ∧ sum.1.toNat % 16 ≤ 9 := by
    simp only [value, sum, hcarry, bitNat_decide]
    split_ifs at hsum ⊢ <;> omega
  have hsub : value diff.1 + value b + bitNat c = value a + 100 * bitNat diff.2.c
      ∧ diff.1.toNat / 16 ≤ 9 ∧ diff.1.toNat % 16 ≤ 9 := by
    simp only [value, diff, hborrow, bitNat_decide]
    split_ifs at hdiff ⊢ <;> omega
  exact ⟨hvalue, hhigh, hlow, hsub⟩

/-- Settles O45: DAA, CPL and NEG write A with their flags, CCF and SCF flags alone. -/
theorem accumulatorAndCarry : Obligations.AccumulatorAndCarry := by
  intro s m a fl lo carry diff adjusted
  exact ⟨does_of_putReg_pair (daaAdjust_eq a fl) rfl rfl,
    does_of_putReg_keepingSzpvc rfl (exec_cpl s) rfl rfl rfl rfl,
    does_of_putReg_pair (sub8_zero_eq a) rfl rfl,
    does_of_setFlags_keepingSzpv rfl rfl rfl rfl rfl,
    does_of_setFlags_keepingSzpv rfl rfl rfl rfl rfl⟩

/-- Settles O46: each form is one write of the control state, or completes with the state as it is. -/
theorem cpuControl : Obligations.CpuControl := fun s _ _ _ _ =>
  ⟨does_of_next_self rfl rfl, ⟨rfl, _, rfl, rfl, s.setHalted_frame true⟩, does_of_setIff rfl rfl, does_of_setIff rfl rfl,
    does_of_setIm rfl rfl, does_of_setIm rfl rfl, does_of_setIm rfl rfl, does_of_next_self rfl rfl,
    does_of_next_self rfl rfl⟩

end Sys2Proof.Machine
end

section
/-! SUPPORT and the obligations about 16-bit arithmetic (45_alu16.md R450 to R460). An addition or subtraction writes its
flags and HL or an index register; a count writes its pair or index register alone. -/

namespace Sys2Proof.Machine

/-! ### HL written leaves the flags -/

@[simp] theorem State.setHl_flags (s : State) (v : Word) : (s.setHl v).flags = s.flags := by simp [State.setHl]

/-! ### What an instruction does that writes a word and the flags -/

section
variable {i : Instr} {s : State} {cycles : Nat} {res : Word × Flags}

theorem does_of_putHl (ht : instrT i s = cycles) (hexec : exec i s = .next (s.putHl res)) :
    Does i s cycles (.reg .h :: .reg .l :: Loc.flags) (fun t => t.hl = res.1 ∧ t.flags = res.2) :=
  ⟨ht, _, hexec, by simp [State.putHl], s.putHl_frame res⟩

theorem does_of_putIndex {k : Index} (ht : instrT i s = cycles) (hexec : exec i s = .next (s.putIndex k res)) :
    Does i s cycles (Loc.index k :: Loc.flags) (fun t => t.index k = res.1 ∧ t.flags = res.2) :=
  ⟨ht, _, hexec, by simp [State.putIndex], s.putIndex_frame k res⟩

end

/-! ### The obligations -/

/-- Settles O47: each form is a write of its word with its flags; the statement's match on the pair is `State.idxPair`. -/
theorem sixteenBitAddSubtract : Obligations.SixteenBitAddSubtract := by
  intro s ss pp toHl toXy other
  refine ⟨does_of_putHl rfl rfl, does_of_putHl rfl rfl, does_of_putHl rfl rfl, ?ix, ?iy⟩
  case ix => cases pp <;> exact does_of_putIndex rfl rfl
  case iy => cases pp <;> exact does_of_putIndex rfl rfl

/-- Settles O48: each form writes its pair or index register and leaves the flags to the frame. -/
theorem sixteenBitCounts : Obligations.SixteenBitCounts := fun _ _ =>
  ⟨does_of_setPair rfl rfl, does_of_setIndex (k := .ix) rfl rfl, does_of_setIndex (k := .iy) rfl rfl,
    does_of_setPair rfl rfl, does_of_setIndex (k := .ix) rfl rfl, does_of_setIndex (k := .iy) rfl rfl⟩

end Sys2Proof.Machine
end

section
/-! SUPPORT and the obligations about rotates and shifts (46_rotate_shift.md R470 to R508). A byte moved one place is known
bit by bit, which gives the table of R474; an accumulator rotate, a rotate of memory with the register copy and a rotate of
digits are one rule each. -/

namespace Sys2Proof.Machine

/-! ### A byte moved one place, bit by bit -/

theorem getElem_shiftLeft (v : Byte) (low : Bool) {i : Nat} (hi : i < 8) :
    (shiftLeft v low)[i] = if i = 0 then low else v[i - 1] := by
  refine (BitVec.getLsbD_eq_getElem hi).symm.trans (BitVec.getLsbD_append.trans ?_)
  rcases i with _ | i
  · simp
  · simpa [show i < 7 by omega] using BitVec.getLsbD_eq_getElem (by omega)

theorem getElem_shiftRight (v : Byte) (high : Bool) {i : Nat} (hi : i < 8) :
    (shiftRight v high)[i] = if h : 1 + i < 8 then v[1 + i] else high := by
  refine (BitVec.getLsbD_eq_getElem hi).symm.trans (BitVec.getLsbD_append.trans ?_)
  by_cases h : i < 7
  · simp [h, show 1 + i < 8 by omega]
  · obtain rfl : i = 7 := by omega
    simp

/-- RL, with the carry as a byte. -/
theorem shiftLeft_eq_or (v : Byte) (low : Bool) : shiftLeft v low = (v <<< 1) ||| (BitVec.ofBool low).setWidth 8 := by
  ext i hi
  rcases i with _ | i <;> simp [getElem_shiftLeft]

/-- RR, with the carry as a byte. -/
theorem shiftRight_eq_or (v : Byte) (high : Bool) :
    shiftRight v high = (v >>> 1) ||| ((BitVec.ofBool high).setWidth 8 <<< 7) := by
  ext i hi
  by_cases h : i < 7
  · simp [getElem_shiftRight, h, show 1 + i < 8 by omega]
  · obtain rfl : i = 7 := by omega
    simp [getElem_shiftRight]

theorem shiftLeft_msb (v : Byte) : shiftLeft v v.msb = v.rotateLeft 1 := by
  ext i hi
  rcases i with _ | i <;> simp [getElem_shiftLeft, BitVec.getElem_rotateLeft, BitVec.msb_eq_getLsbD_last]

theorem shiftRight_lsb (v : Byte) : shiftRight v (v.getLsbD 0) = v.rotateRight 1 := by
  ext i hi
  by_cases h : i < 7
  · simp [getElem_shiftRight, BitVec.getElem_rotateRight, h, show 1 + i < 8 by omega]
  · obtain rfl : i = 7 := by omega
    simp [getElem_shiftRight, BitVec.getElem_rotateRight]

theorem shiftRight_msb (v : Byte) : shiftRight v v.msb = v.sshiftRight 1 := by
  ext i hi
  rw [getElem_shiftRight, BitVec.getElem_sshiftRight]

theorem shiftLeft_false (v : Byte) : shiftLeft v false = v <<< 1 := by
  rw [shiftLeft_eq_or]; exact BitVec.or_zero

theorem shiftLeft_true (v : Byte) : shiftLeft v true = (v <<< 1) ||| 1 := shiftLeft_eq_or v true

theorem shiftRight_false (v : Byte) : shiftRight v false = v >>> 1 := by
  rw [shiftRight_eq_or]; exact BitVec.or_zero

/-- `ShiftFlags` (R39) with the test for zero as the statements write it. -/
theorem shiftFlags_eq (r : Byte) (c : Bool) :
    shiftFlags r c = { s := r.getLsbD 7, z := decide (r = 0), y := r.getLsbD 5, h := false, x := r.getLsbD 3,
                       pv := parity r, n := false, c := c } := by
  rw [← beq_eq_decide]; rfl

/-! ### Two digits as a byte -/

/-- A byte put together from two digits, each known as its part of the byte. -/
theorem digits_eq_or {hi lo : BitVec 4} {hiPart loPart : Byte} (hhi : hi.setWidth 8 <<< 4 = hiPart)
    (hlo : lo.setWidth 8 = loPart) : (hi ++ lo : Byte) = hiPart ||| loPart := by
  rw [BitVec.append_def, BitVec.shiftLeftZeroExtend_eq, BitVec.setWidth'_eq, hhi, hlo]

theorem hiDigit_setWidth (v : Byte) : (hiDigit v).setWidth 8 = v >>> 4 := by
  have hv := v.isLt
  refine BitVec.eq_of_toNat_eq ?_
  simp only [hiDigit, BitVec.toNat_setWidth, BitVec.extractLsb'_toNat, BitVec.toNat_ushiftRight,
    Nat.shiftRight_eq_div_pow]
  omega

theorem loDigit_setWidth (v : Byte) : (loDigit v).setWidth 8 = v &&& 0x0F := by
  have hmask : (v &&& 0x0F).toNat = v.toNat % 16 := Nat.and_two_pow_sub_one_eq_mod v.toNat 4
  refine BitVec.eq_of_toNat_eq ?_
  simp only [hmask, loDigit, BitVec.toNat_setWidth, BitVec.extractLsb'_toNat, Nat.shiftRight_zero]
  omega

theorem hiDigit_shifted (v : Byte) : (hiDigit v).setWidth 8 <<< 4 = v &&& 0xF0 := by
  rw [hiDigit_setWidth, BitVec.shiftLeft_ushiftRight]
  rfl

theorem loDigit_shifted (v : Byte) : (loDigit v).setWidth 8 <<< 4 = v <<< 4 := by
  refine BitVec.eq_of_toNat_eq ?_
  simp only [loDigit, BitVec.toNat_setWidth, BitVec.extractLsb'_toNat, BitVec.toNat_shiftLeft, Nat.shiftRight_zero,
    Nat.shiftLeft_eq]
  omega

/-! ### What a byte written with the register copy leaves to be read -/

@[simp] theorem State.copyTo_flags (s : State) (z : Option Reg8) (v : Byte) : (s.copyTo z v).flags = s.flags := by
  cases z <;> simp [State.copyTo]

@[simp] theorem State.copyTo_readByte (s : State) (z : Option Reg8) (v : Byte) (a : Word) :
    (s.copyTo z v).readByte a = s.readByte a := by
  cases z <;> simp [State.copyTo]

@[simp] theorem State.copyTo_some_reg (s : State) (r : Reg8) (v : Byte) : (s.copyTo (some r) v).reg r = v := by
  simp [State.copyTo]

/-! ### What an instruction does that rotates -/

theorem State.rotAcc_eq (s : State) (op : RotOp) :
    s.rotAcc op = s.putReg .a ((rot op (s.reg .a) (s.flag .c)).1,
      accRotFlags s.flagsProfile (rot op (s.reg .a) (s.flag .c)).1 (rot op (s.reg .a) (s.flag .c)).2 s.flags) := rfl

section
variable {i : Instr} {s : State} {cycles : Nat} {op : RotOp}

/-- A write of a register and of flags that keeps every flag outside `ls`. -/
theorem does_of_putReg_keeping {r : Reg8} {v : Byte} {fl : Flags} {ls : List Loc} (ht : instrT i s = cycles)
    (hexec : exec i s = .next (s.putReg r (v, fl)))
    (hkept : ∀ name, Loc.flag name ∉ ls → fl.get name = s.flag name) :
    Does i s cycles (.reg r :: ls) (fun t => t.reg r = v ∧ t.flags = fl) :=
  ⟨ht, _, hexec, by simp [State.putReg],
    (State.setFlags_frame_of_get hkept).andThen (State.setReg_frame _ r v) (by simp) (by simp)⟩

/-- An accumulator rotate whose row of the table is known as a result and the bit shifted out (R470 to R473). -/
theorem does_of_rotAcc {v : Byte} {c : Bool} (hrot : rot op (s.reg .a) (s.flag .c) = (v, c)) (ht : instrT i s = cycles)
    (hexec : exec i s = .next (s.rotAcc op)) :
    Does i s cycles [.reg .a, .flag .y, .flag .h, .flag .x, .flag .n, .flag .c]
      (fun t => t.reg .a = v ∧ t.flags = accRotFlags s.flagsProfile v c s.flags) := by
  have hput : s.rotAcc op = s.putReg .a (v, accRotFlags s.flagsProfile v c s.flags) := by
    rw [State.rotAcc_eq, hrot]
  refine does_of_putReg_keeping ht (hexec.trans (congrArg _ hput)) fun name hname => ?_
  cases name with
  | s | z | pv => cases s.flagsProfile <;> rfl
  | _ => simp at hname

/-- A rotate of the byte at `a` with the register copy (R474). -/
theorem does_of_rotMem {a : Word} {z : Option Reg8} (ht : instrT i s = cycles)
    (hexec : exec i s = .next (s.rotMem op a z)) :
    Does i s cycles (.mem a :: Loc.copy z ++ Loc.flags) (fun t =>
      t.readByte a = s.stored a (rotate op (s.readByte a) (s.flag .c)).1
      ∧ (∀ q, z = some q → t.reg q = (rotate op (s.readByte a) (s.flag .c)).1)
      ∧ t.flags = (rotate op (s.readByte a) (s.flag .c)).2) := by
  refine ⟨ht, _, hexec, ⟨?byte, ?copy, ?flags⟩, ?frame⟩
  case byte => simp [State.rotMem, State.putMem, State.stored, State.flag, Flags.get]
  case copy => rintro q rfl; exact State.copyTo_some_reg _ q _
  case flags => simp [State.rotMem, State.putMem, State.flag, Flags.get]
  case frame => exact (s.putMem_frame a _).andThen (State.copyTo_frame _ z _) (by simp) (by simp)

/-- A rotate of digits whose new accumulator and byte are known (R507, R508). -/
theorem does_of_rotDigits {memHi memLo accLo : BitVec 4} {acc mem : Byte} (hacc : hiDigit (s.reg .a) ++ accLo = acc)
    (hmem : memHi ++ memLo = mem) (ht : instrT i s = cycles)
    (hexec : exec i s = .next (s.rotDigits memHi memLo accLo)) :
    Does i s cycles (.mem s.hl :: .reg .a :: Loc.flags) (fun t => t.reg .a = acc
      ∧ t.readByte s.hl = s.stored s.hl mem
      ∧ t.flags = { s := acc.getLsbD 7, z := decide (acc = 0), y := acc.getLsbD 5, h := false, x := acc.getLsbD 3,
                    pv := parity acc, n := false, c := s.flag .c }) := by
  subst hacc hmem
  refine ⟨ht, _, hexec, ⟨?acc, ?byte, ?flags⟩, ?frame⟩
  case acc => simp [State.rotDigits, State.putReg]
  case byte => simp [State.rotDigits, State.putReg]
  case flags => rw [← shiftFlags_eq]; simp [State.rotDigits, State.putReg, State.flag, Flags.get]
  case frame => exact (s.writeByte_frame s.hl _).andThen (State.putReg_frame _ .a _) (by simp) (by simp)

end

/-! ### The obligations -/

/-- Settles O24: each row is a byte moved one place with its own bit moved in, the bit shifted out is the byte's top or
lowest bit by definition, and the flags are those of `shiftFlags`. -/
theorem rotateAndShiftTable : Obligations.RotateAndShiftTable := by
  intro v cin
  have out {res res' : Byte} (h : res = res') (c : Bool) : (res, c) = (res', c) := congrArg (·, c) h
  exact ⟨out (shiftLeft_msb v) v.msb, out (shiftRight_lsb v) _, out (shiftLeft_eq_or v cin) v.msb,
    out (shiftRight_eq_or v cin) _, out (shiftLeft_false v) v.msb, out (shiftRight_msb v) _, out (shiftLeft_true v) v.msb,
    out (shiftRight_false v) _, fun op => congrArg (Prod.mk _) (shiftFlags_eq _ _)⟩

/-- Settles O49: the four rows come from the table of `rotateAndShiftTable`. -/
theorem accumulatorRotates : Obligations.AccumulatorRotates := by
  intro s a cin turns
  obtain ⟨hrlc, hrrc, hrl, hrr, -⟩ := rotateAndShiftTable a (s.flag .c)
  exact ⟨does_of_rotAcc hrlc rfl rfl, does_of_rotAcc hrl rfl rfl, does_of_rotAcc hrrc rfl rfl,
    does_of_rotAcc hrr rfl rfl⟩

/-- Settles O50: each form writes a register with its flags, or is a rotate of memory at its address. -/
theorem rotatesAndShifts : Obligations.RotatesAndShifts := by
  intro s r d z ax ay register memory
  refine ⟨?registers, ?atHl, ?atIx, ?atIy⟩
  case registers => refine ⟨?_, ?_, ?_, ?_, ?_, ?_, ?_, ?_⟩ <;> exact does_of_putReg rfl rfl
  all_goals refine ⟨?_, ?_, ?_, ?_, ?_, ?_, ?_, ?_⟩ <;> exact does_of_rotMem rfl rfl

/-- Settles O51: the digits of A and of the byte are shifts and masks of them. -/
theorem digitRotates : Obligations.DigitRotates := by
  intro s a v turns
  exact ⟨does_of_rotDigits (digits_eq_or (hiDigit_shifted a) (hiDigit_setWidth v))
      (digits_eq_or (loDigit_shifted v) (loDigit_setWidth a)) rfl rfl,
    does_of_rotDigits (digits_eq_or (hiDigit_shifted a) (loDigit_setWidth v))
      (digits_eq_or (loDigit_shifted a) (hiDigit_setWidth v)) rfl rfl⟩

end Sys2Proof.Machine
end

section
/-! SUPPORT and the obligations about bit set, reset and test (47_bit.md R520 to R531). A tested bit is known as 0 or 1 in
the shifted byte, which gives the flags; a bit written in memory with the register copy is one rule. -/

namespace Sys2Proof.Machine

/-! ### The flags of BIT -/

theorem ushiftRight_and_one (v : Byte) (n : Nat) : (v >>> n) &&& 1 = (BitVec.ofBool (testBit v n)).setWidth 8 := by
  refine BitVec.and_one_eq_setWidth_ofBool_getLsbD.trans ?_
  rw [testBit, BitVec.getLsbD_ushiftRight, Nat.add_zero]

/-- The flags of BIT (R520 to R523), with the tested bit as the statement writes it. -/
theorem bitFlags_eq (b : BitVec 3) (v yx : Byte) (old : Flags) :
    bitFlags b v yx old = {
      s := decide (b = 7 ∧ (v >>> b.toNat) &&& 1 = 1), z := decide ((v >>> b.toNat) &&& 1 = 0), y := yx.getLsbD 5,
      h := true, x := yx.getLsbD 3, pv := decide ((v >>> b.toNat) &&& 1 = 0), n := false, c := old.c } := by
  rw [ushiftRight_and_one, bitFlags, beq_eq_decide]
  cases testBit v b.toNat <;> simp

/-- Bit `i` of the high byte of an address is bit `8 + i` of the address. -/
theorem hiByte_getLsbD (a : Word) {i : Nat} (hi : i < 8) : (hiByte a).getLsbD i = a.getLsbD (8 + i) := by
  rw [hiByte, BitVec.getLsbD_extractLsb', decide_eq_true hi, Bool.true_and]

/-! ### What an instruction does that tests or writes one bit -/

section
variable {i : Instr} {s : State} {cycles : Nat} {b : BitVec 3}

/-- A test of bit `b` of `v` that takes Y and X from `yx`. -/
theorem does_of_bitFlags {v yx : Byte} {y x : Bool} (hy : yx.getLsbD 5 = y) (hx : yx.getLsbD 3 = x)
    (ht : instrT i s = cycles) (hexec : exec i s = .next (s.setFlags (bitFlags b v yx s.flags))) :
    Does i s cycles Loc.flags (fun t => t.flags = {
      s := decide (b = 7 ∧ (v >>> b.toNat) &&& 1 = 1), z := decide ((v >>> b.toNat) &&& 1 = 0), y := y, h := true, x := x,
      pv := decide ((v >>> b.toNat) &&& 1 = 0), n := false, c := s.flag .c }) := by
  subst hy hx
  rw [bitFlags_eq] at hexec
  exact does_of_setFlags ht hexec

/-- SET (`x` true) or RES (`x` false) of bit `b` of the byte at `a`, with the register copy (R525 to R531). -/
theorem does_of_putBit {a : Word} {x : Bool} {z : Option Reg8} (ht : instrT i s = cycles)
    (hexec : exec i s = .next (s.putBit a b x z)) :
    Does i s cycles (.mem a :: Loc.copy z) (fun t =>
      t.readByte a = s.stored a (setBit (s.readByte a) b.toNat x)
      ∧ ∀ q, z = some q → t.reg q = setBit (s.readByte a) b.toNat x) := by
  refine ⟨ht, _, hexec, ⟨?byte, ?copy⟩, ?frame⟩
  case byte => simp [State.putBit]
  case copy => rintro q rfl; exact State.copyTo_some_reg _ q _
  case frame => exact (s.writeByte_frame a _).andThen (State.copyTo_frame _ z _) (by simp) (by simp)

end

/-! ### The obligations -/

/-- Settles O52: each form writes the flags of `bitFlags`; the indexed forms take Y and X from the address's high byte. -/
theorem bitTests : Obligations.BitTests := by
  intro s b j src d ax ay tests
  exact ⟨does_of_bitFlags rfl rfl rfl rfl, does_of_bitFlags rfl rfl rfl rfl,
    does_of_bitFlags (hiByte_getLsbD ax (by decide)) (hiByte_getLsbD ax (by decide)) rfl rfl,
    does_of_bitFlags (hiByte_getLsbD ay (by decide)) (hiByte_getLsbD ay (by decide)) rfl rfl⟩

/-- Settles O53: each form writes its register alone, or its byte of memory with the register copy. -/
theorem bitSetsAndResets : Obligations.BitSetsAndResets := by
  intro s b r d z ax ay set reset memory
  exact ⟨does_of_setReg rfl rfl, does_of_putBit (x := true) rfl rfl, does_of_putBit (x := true) rfl rfl,
    does_of_putBit (x := true) rfl rfl, does_of_setReg rfl rfl, does_of_putBit (x := false) rfl rfl,
    does_of_putBit (x := false) rfl rfl, does_of_putBit (x := false) rfl rfl⟩

end Sys2Proof.Machine
end

section
/-! SUPPORT and the obligations about jumps, calls and returns (48_jump_call_return.md R540 to R554). A conditional form that
is not taken completes with the state as it is. -/

namespace Sys2Proof.Machine

/-! ### What a call and a return may change -/

/-- A place that holds what it held need not be named in a frame. -/
theorem State.SameBut.of_cons_sameAt {l : Loc} {ls : List Loc} {s t : State} (h : s.SameBut (l :: ls) t)
    (hl : l.sameAt s t) : s.SameBut ls t := by
  intro other hother
  by_cases heq : other = l
  · exact heq ▸ hl
  · exact h other fun hmem => hother ((List.mem_cons.mp hmem).resolve_left heq)

section
variable (s : State)

/-- A jump after a push, and the jump of the events that end in one. -/
theorem State.push16_setPc_frame (v target : Word) : s.SameBut (.pc :: s.pushLocs) ((s.push16 v).setPc target) :=
  (s.push16_frame v).andThen ((s.push16 v).setPc_frame target) (List.subset_cons_self _ _) (by simp)

theorem State.push16_setPc_pushed (v target : Word) : s.Pushed v ((s.push16 v).setPc target) := s.push16_pushed v

/-- RETI and RETN write IFF1 with IFF2, and IFF2 with itself (60_exceptions.md R634). -/
theorem State.returnFromInterrupt_frame : s.SameBut [.pc, .sp, .iff1] s.returnFromInterrupt := by
  refine State.SameBut.of_cons_sameAt (l := .iff2) ?_ rfl
  exact s.ret_frame.andThen (s.ret.setIff_frame s.iff2 s.iff2) (by simp) (by simp)

end

/-! ### What an instruction does that is one transfer of control -/

section
variable {i : Instr} {s : State} {cycles : Nat} {target : Word}

theorem does_of_setPc (ht : instrT i s = cycles) (hexec : exec i s = .next (s.setPc target)) :
    Does i s cycles [.pc] (fun t => t.pc = target) :=
  ⟨ht, _, hexec, rfl, s.setPc_frame target⟩

/-- A conditional jump, whichever way it goes. -/
theorem does_of_setPc_if {taken : Bool} (ht : instrT i s = cycles)
    (hexec : exec i s = .next (if taken then s.setPc target else s)) :
    Does i s cycles [.pc] (fun t => t.pc = if taken then target else s.pc) := by
  cases taken with
  | true => exact does_of_setPc ht hexec
  | false => exact ⟨ht, s, hexec, rfl, State.SameBut.refl _ s⟩

theorem does_of_call (ht : instrT i s = cycles) (hexec : exec i s = .next (s.call target)) :
    Does i s cycles (.pc :: s.pushLocs) (fun t => t.pc = target ∧ s.Pushed s.pc t) :=
  ⟨ht, _, hexec, ⟨rfl, s.push16_setPc_pushed s.pc target⟩, s.push16_setPc_frame s.pc target⟩

theorem does_of_ret (ht : instrT i s = cycles) (hexec : exec i s = .next s.ret) :
    Does i s cycles [.pc, .sp] (fun t => t.pc = s.top ∧ t.sp = s.sp + 2) :=
  ⟨ht, _, hexec, ⟨rfl, rfl⟩, s.ret_frame.mono (by simp)⟩

theorem does_of_returnFromInterrupt (ht : instrT i s = cycles) (hexec : exec i s = .next s.returnFromInterrupt) :
    Does i s cycles [.pc, .sp, .iff1] (fun t => t.pc = s.top ∧ t.sp = s.sp + 2 ∧ t.iff1 = s.iff2) :=
  ⟨ht, _, hexec, ⟨rfl, rfl, rfl⟩, s.returnFromInterrupt_frame⟩

end

/-- DJNZ counts B down and then jumps while the count is not 0 (R547). -/
theorem does_djnz (s : State) (e : Byte) :
    Does (.djnz e) s (if s.reg .b - 1 ≠ 0 then 13 else 8) [.reg .b, .pc] (fun t =>
      t.reg .b = s.reg .b - 1 ∧ t.pc = if s.reg .b - 1 ≠ 0 then s.pc + e.signExtend 16 else s.pc) := by
  have hT : instrT (.djnz e) s = if s.reg .b - 1 != 0 then 13 else 8 := rfl
  have hexec : exec (.djnz e) s = .next (if s.reg .b - 1 != 0 then (s.setReg .b (s.reg .b - 1)).jumpRelative e
    else s.setReg .b (s.reg .b - 1)) := rfl
  have hcount := s.setReg_frame .b (s.reg .b - 1)
  by_cases hzero : s.reg .b - 1 = 0
  · simp only [hzero, bne_self_eq_false, Bool.false_eq_true, if_false, ne_eq, not_true_eq_false] at hT hexec hcount ⊢
    exact ⟨hT, _, hexec, by simp, hcount.mono (by simp)⟩
  · simp only [bne_iff_ne, ne_eq, hzero, not_false_eq_true, if_true] at hT hexec ⊢
    exact ⟨hT, _, hexec, by simp [State.jumpRelative, sext16], hcount.trans (State.setPc_frame _ _)⟩

/-- The restart addresses: eight times the number in the opcode (R554). -/
theorem restart_address (k : BitVec 3) : (8 * k.setWidth 16 : Word) = BitVec.ofNat 16 (8 * k.toNat) := by
  cases k using field3_cases <;> rfl

/-! ### The obligations -/

/-- Settles O54: each form is a jump, taken or not; DJNZ counts B down first. -/
theorem jumps : Obligations.Jumps := by
  intro s nn cc e goes near left
  exact ⟨does_of_setPc rfl rfl, does_of_setPc_if rfl rfl, does_of_setPc rfl rfl, does_of_setPc_if rfl rfl,
    does_of_setPc rfl rfl, does_of_setPc rfl rfl, does_of_setPc rfl rfl, does_djnz s e⟩

/-- Settles O55: each form is a call, but CALL cc when its condition fails. -/
theorem calls : Obligations.Calls := by
  intro s nn cc k calls
  refine ⟨does_of_call rfl rfl, ?conditional, restart_address k ▸ does_of_call rfl rfl⟩
  case conditional =>
    split_ifs with hcond
    · exact does_of_call (if_pos hcond) (congrArg _ (if_pos hcond))
    · exact does_of_next_self (if_neg hcond) (congrArg _ (if_neg hcond))

/-- Settles O56: each form is a return, but RET cc when its condition fails; RETI and RETN restore IFF1. -/
theorem returns : Obligations.Returns := by
  intro s cc m target returns restores
  refine ⟨does_of_ret rfl rfl, ?conditional, does_of_returnFromInterrupt rfl rfl, does_of_returnFromInterrupt rfl rfl⟩
  split_ifs with hcond
  · exact does_of_ret (if_pos hcond) (congrArg _ (if_pos hcond))
  · exact does_of_next_self (if_neg hcond) (congrArg _ (if_neg hcond))

end Sys2Proof.Machine
end

section
/-! SUPPORT and the obligations about input and output (49_io.md R580 to R594; 42_exchange_block.md R306): a byte read from
a port is the staged one where there is one, and a block form is one element and the repeat rule. -/

namespace Sys2Proof.Machine

/-! ### Ports (20_memory.md R84 to R86) -/

theorem loByte_portN (s : State) (n : Byte) : loByte (s.portN n) = n := loByte_join _ n

theorem loByte_portC (s : State) : loByte s.portC = s.reg .c := loByte_join _ _

theorem State.ioValue_of_staged {s : State} {p : Word} {staged : Byte} (h : s.inSlot (loByte p) = some staged) :
    s.ioValue p = staged := by rw [State.ioValue, h, Option.getD_some]

section
variable {i : Instr} {s t : State} {cycles : Nat} {ls : List Loc} {p : Word} {q : Byte}

theorem State.ioWrite_frame_of_port (hport : loByte p = q) (v : Byte) : s.SameBut [.outSlot q] (s.ioWrite p v) :=
  hport ▸ s.ioWrite_frame p v

/-- An instruction that reads the port `p` once: the byte it read is the staged one where there is one, and nothing more is
said of it (R86). -/
theorem does_of_ioRead {holds : Byte → State → Prop} (hport : loByte p = q) (ht : instrT i s = cycles)
    (hexec : exec i s = .next t) (hholds : holds (s.ioValue p) t) (hframe : (s.ioRead p).SameBut ls t) :
    ∃ v, (∀ staged, s.inSlot q = some staged → v = staged) ∧ Does i s cycles (.draws :: ls) (holds v) := by
  subst hport
  exact ⟨s.ioValue p, fun _ => State.ioValue_of_staged, ht, t, hexec, hholds, (s.ioRead_frame p).trans hframe⟩

theorem does_of_ioWrite {v : Byte} (hport : loByte p = q) (ht : instrT i s = cycles)
    (hexec : exec i s = .next (s.ioWrite p v)) :
    Does i s cycles [.outSlot q] (fun t => t.outSlot q = some v) := by
  exact ⟨ht, _, hexec, by simp [State.ioWrite_outSlot, hport], State.ioWrite_frame_of_port hport v⟩

end

/-- Settles O57: each input is one port read, whose byte goes to a register, to the flags, or to both; each output is one
port write. -/
theorem portInputAndOutput : Obligations.PortInputAndOutput := by
  intro s n r flagsOf inputs outputs
  have hflags (v : Byte) : shiftFlags v s.flags.c = flagsOf v := shiftFlags_eq v _
  refine ⟨does_of_ioRead (loByte_portN s n) rfl rfl (by simp) (State.setReg_frame _ .a _),
    does_of_ioRead (loByte_portC s) rfl rfl ?both (State.putReg_frame _ r _),
    does_of_ioRead (loByte_portC s) rfl rfl ?flags (State.setFlags_frame _ _),
    does_of_ioWrite (loByte_portN s n) rfl rfl, does_of_ioWrite (loByte_portC s) rfl rfl,
    does_of_ioWrite (loByte_portC s) rfl rfl⟩
  case both => simp [State.putReg, hflags]
  case flags => simp [hflags]

/-! ### One element of a block form (R580, R584 to R594) -/

/-- `BlockIoFlags` with the test for zero as the statement writes it (R580). -/
theorem blockIoFlags_eq (v : Byte) (k : Nat) (b : Byte) :
    blockIoFlags v k b =
      { s := b.getLsbD 7, z := decide (b = 0), y := b.getLsbD 5, h := decide (255 < k), x := b.getLsbD 3,
        pv := parity (BitVec.ofNat 8 (k % 8) ^^^ b), n := v.getLsbD 7, c := decide (255 < k) } := by
  rw [← beq_eq_decide]; rfl

@[simp] theorem State.repeatIf_reg (s : State) (again : Bool) (r : Reg8) : (s.repeatIf again).reg r = s.reg r := by
  cases again <;> rfl

@[simp] theorem State.repeatIf_outSlot (s : State) (again : Bool) (q : Byte) :
    (s.repeatIf again).outSlot q = s.outSlot q := by cases again <;> rfl

section
variable (s : State) (dir : Direction)

@[simp] theorem State.blockIn_pc : (s.blockIn dir).pc = s.pc := by simp [State.blockIn, State.setHl]

@[simp] theorem State.blockIn_reg_b : (s.blockIn dir).reg .b = s.reg .b - 1 := by simp [State.blockIn]

@[simp] theorem State.blockIn_hl : (s.blockIn dir).hl = s.hl + dir.step := by
  simp [State.blockIn, State.setHl, State.hl, join_hi_lo]

@[simp] theorem State.blockIn_flags : (s.blockIn dir).flags = blockIoFlags (s.ioValue s.portC)
    ((s.ioValue s.portC).toNat + (s.reg .c + loByte dir.step).toNat) (s.reg .b - 1) := by simp [State.blockIn]

@[simp] theorem State.blockIn_readByte_hl :
    (s.blockIn dir).readByte s.hl = s.stored s.hl (s.ioValue s.portC) := by
  simp [State.blockIn, State.setHl, State.stored]

/-- Past its port read, one element of a block input is a byte write, HL, B and the flags. -/
theorem State.blockIn_frame :
    (s.ioRead s.portC).SameBut (.mem s.hl :: .reg .h :: .reg .l :: .reg .b :: Loc.flags) (s.blockIn dir) :=
  (((State.writeByte_frame _ _ _).trans (State.setHl_frame _ _)).trans (State.setReg_frame _ .b _)).trans
    (State.setFlags_frame _ _)

/-- One element of a block output with what it reads given by the state before it: counting B down leaves HL and C, and L is
the low byte of the stepped HL. -/
theorem State.blockOut_eq : s.blockOut dir =
    (((s.setReg .b (s.reg .b - 1)).ioWrite (joinBytes (s.reg .b - 1) (s.reg .c)) (s.readByte s.hl)).setHl
      (s.hl + dir.step)).setFlags (blockIoFlags (s.readByte s.hl)
        ((s.readByte s.hl).toNat + (loByte (s.hl + dir.step)).toNat) (s.reg .b - 1)) := by
  have hhl : (s.setReg .b (s.reg .b - 1)).hl = s.hl := by simp [State.hl]
  have hport : (s.setReg .b (s.reg .b - 1)).portC = joinBytes (s.reg .b - 1) (s.reg .c) := by
    simp [State.portC, State.bc]
  simp only [State.blockOut, hhl, hport, State.setReg_readByte]
  simp [State.setHl]

@[simp] theorem State.blockOut_pc : (s.blockOut dir).pc = s.pc := by simp [State.blockOut_eq, State.setHl]

@[simp] theorem State.blockOut_reg_b : (s.blockOut dir).reg .b = s.reg .b - 1 := by
  simp [State.blockOut_eq, State.setHl]

@[simp] theorem State.blockOut_hl : (s.blockOut dir).hl = s.hl + dir.step := by simp [State.blockOut_eq]

@[simp] theorem State.blockOut_flags : (s.blockOut dir).flags = blockIoFlags (s.readByte s.hl)
    ((s.readByte s.hl).toNat + (loByte (s.hl + dir.step)).toNat) (s.reg .b - 1) := by simp [State.blockOut_eq]

@[simp] theorem State.blockOut_outSlot : (s.blockOut dir).outSlot (s.reg .c) = some (s.readByte s.hl) := by
  simp [State.blockOut_eq, State.setHl, State.ioWrite_outSlot, loByte_join]

theorem State.blockOut_frame :
    s.SameBut (.reg .b :: .outSlot (s.reg .c) :: .reg .h :: .reg .l :: Loc.flags) (s.blockOut dir) := by
  have hport : loByte (joinBytes (s.reg .b - 1) (s.reg .c)) = s.reg .c := loByte_join _ _
  rw [State.blockOut_eq]
  exact (((s.setReg_frame .b _).trans (State.ioWrite_frame_of_port hport _)).trans (State.setHl_frame _ _)).trans
    (State.setFlags_frame _ _)

end

/-! ### A block form is one element and the repeat rule (R306) -/

section
variable {i : Instr} {s : State} {cond again : Bool} {flagsOf : Byte → Nat → Flags} {delta : Word}

theorem does_of_blockIn (dir : Direction) {step : Byte} (hdelta : dir.step = delta) (hstep : loByte dir.step = step)
    (hflags : ∀ v k, blockIoFlags v k (s.reg .b - 1) = flagsOf v k) (hcond : cond = again)
    (ht : instrT i s = repeatT cond) (hexec : exec i s = .next ((s.blockIn dir).repeatIf cond)) :
    ∃ v, (∀ staged, s.inSlot (s.reg .c) = some staged → v = staged) ∧ Does i s (if again then 21 else 16)
      (.draws :: .mem s.hl :: .reg .h :: .reg .l :: .reg .b :: .pc :: Loc.flags)
      (fun t => t.readByte s.hl = s.stored s.hl v ∧ t.hl = s.hl + delta ∧ t.reg .b = s.reg .b - 1
        ∧ t.flags = flagsOf v (v.toNat + (s.reg .c + step).toNat) ∧ t.pc = if again then s.pc - 2 else s.pc) := by
  subst hdelta hstep hcond
  refine does_of_ioRead (loByte_portC s) ht hexec (by simp [← hflags])
    ((s.blockIn_frame dir).andThen (State.repeatIf_frame _ _) ?element ?pc)
  case element => simp [Loc.flags]
  case pc => simp

theorem does_of_blockOut (dir : Direction) (hdelta : dir.step = delta)
    (hflags : ∀ v k, blockIoFlags v k (s.reg .b - 1) = flagsOf v k) (hcond : cond = again)
    (ht : instrT i s = repeatT cond) (hexec : exec i s = .next ((s.blockOut dir).repeatIf cond)) :
    Does i s (if again then 21 else 16) (.outSlot (s.reg .c) :: .reg .h :: .reg .l :: .reg .b :: .pc :: Loc.flags)
      (fun t => t.outSlot (s.reg .c) = some (s.readByte s.hl) ∧ t.hl = s.hl + delta ∧ t.reg .b = s.reg .b - 1
        ∧ t.flags = flagsOf (s.readByte s.hl) ((s.readByte s.hl).toNat + ((s.hl + delta).setWidth 8).toNat)
        ∧ t.pc = if again then s.pc - 2 else s.pc) := by
  subst hdelta hcond
  refine ⟨ht, _, hexec, by simp [← hflags, loByte_eq_setWidth],
    (s.blockOut_frame dir).andThen (State.repeatIf_frame _ _) ?element ?pc⟩
  case element => simp [Loc.flags]
  case pc => simp

end

/-- INIR and INDR test B as the element left it (R585, R587). -/
theorem State.blockIn_again (s : State) (dir : Direction) :
    ((s.blockIn dir).reg .b != 0) = decide (s.reg .b - 1 ≠ 0) := by rw [State.blockIn_reg_b, bne_eq_decide_ne]

/-- OTIR and OTDR test B as the element left it (R592, R594). -/
theorem State.blockOut_again (s : State) (dir : Direction) :
    ((s.blockOut dir).reg .b != 0) = decide (s.reg .b - 1 ≠ 0) := by rw [State.blockOut_reg_b, bne_eq_decide_ne]

/-- Settles O58: each form is one element and the repeat rule, with the flags of `blockIoFlags_eq`. -/
theorem blockInputAndOutput : Obligations.BlockInputAndOutput := by
  intro s left q flagsOf held inputs outputs more
  have hflags (v : Byte) (k : Nat) : blockIoFlags v k left = flagsOf v k := blockIoFlags_eq v k left
  exact ⟨does_of_blockIn .up rfl rfl hflags rfl rfl rfl,
    does_of_blockIn .up rfl rfl hflags (s.blockIn_again .up) rfl rfl,
    does_of_blockIn .down rfl rfl hflags rfl rfl rfl,
    does_of_blockIn .down rfl rfl hflags (s.blockIn_again .down) rfl rfl,
    does_of_blockOut .up rfl hflags rfl rfl rfl,
    does_of_blockOut .up rfl hflags (s.blockOut_again .up) rfl rfl,
    does_of_blockOut .down rfl hflags rfl rfl rfl,
    does_of_blockOut .down rfl hflags (s.blockOut_again .down) rfl rfl⟩

end Sys2Proof.Machine
end

section
/-! SUPPORT and the obligations about the interrupts (60_exceptions.md R623 to R634): what the acceptance of an event writes,
and which data bytes mode 0 executes. -/

namespace Sys2Proof.Machine

/-! ### Acceptance followed by a push and a jump (R624, R628 to R630) -/

/-- What an acceptance leaves in the control part (R624, R630). -/
theorem State.accepted_of_control_eq {s t : State} {iff1 iff2 : Bool} (h : t.control = (s.accept iff1 iff2).control) :
    t.iff1 = iff1 ∧ t.iff2 = iff2 ∧ t.halted = false ∧ t.regR = refreshAfter s.regR 1 :=
  ⟨congrArg Control.iff1 h, congrArg Control.iff2 h, congrArg Control.halted h, congrArg Control.regR h⟩

theorem State.accept_sp (s : State) (iff1 iff2 : Bool) : (s.accept iff1 iff2).sp = s.sp := rfl

theorem State.accept_stored (s : State) (iff1 iff2 : Bool) (a : Word) (v : Byte) :
    (s.accept iff1 iff2).stored a v = s.stored a v := rfl

theorem State.accept_pushLocs (s : State) (iff1 iff2 : Bool) : (s.accept iff1 iff2).pushLocs = s.pushLocs := rfl

/-- An acceptance writes neither memory nor SP, so a push after it is one on the interrupted state's stack. -/
theorem State.pushed_of_accept {s t : State} {iff1 iff2 : Bool} {v : Word} (h : (s.accept iff1 iff2).Pushed v t) :
    s.Pushed v t := by simpa only [State.Pushed, State.accept_sp, State.accept_stored] using h

/-- `s` after acceptance, a push of the interrupted PC and a jump. -/
def State.entered (s : State) (iff1 iff2 : Bool) (target : Word) : State :=
  ((s.accept iff1 iff2).push16 s.pc).setPc target

theorem State.acceptInt_call (s : State) (target : Word) : s.acceptInt.call target = s.entered false false target := rfl

theorem State.acceptInt_modeTwoAction (s : State) (data : Byte) : s.acceptInt.modeTwoAction data =
    s.entered false false (((s.accept false false).push16 s.pc).readWord (joinBytes s.regI data)) := rfl

theorem State.takeNmi_eq_entered (s : State) : s.takeNmi = s.entered false s.iff1 0x0066 := rfl

/-- A push and a jump write nothing of the control part. -/
theorem State.entered_control (s : State) (iff1 iff2 : Bool) (target : Word) :
    (s.entered iff1 iff2 target).control = (s.accept iff1 iff2).control :=
  (State.setPc_control _ target).trans (State.push16_control _ s.pc)

theorem State.entered_pc (s : State) (iff1 iff2 : Bool) (target : Word) : (s.entered iff1 iff2 target).pc = target :=
  State.setPc_pc _ target

theorem State.entered_pushed (s : State) (iff1 iff2 : Bool) (target : Word) :
    s.Pushed s.pc (s.entered iff1 iff2 target) :=
  State.pushed_of_accept ((s.accept iff1 iff2).push16_setPc_pushed s.pc target)

theorem State.entered_frame (s : State) (iff1 iff2 : Bool) (target : Word) :
    s.SameBut (.pc :: .iff1 :: .iff2 :: .halted :: .regR :: s.pushLocs) (s.entered iff1 iff2 target) := by
  have hjump := (s.accept iff1 iff2).push16_setPc_frame s.pc target
  rw [State.accept_pushLocs] at hjump
  exact (s.accept_frame iff1 iff2).andThen hjump (by simp)
    (List.cons_subset_cons _ (List.subset_append_right [Loc.iff1, Loc.iff2, Loc.halted, Loc.regR] _))

/-- What is in the state entered, and the places that changed. -/
theorem State.entered_effect (s : State) (iff1 iff2 : Bool) (target : Word) :
    ((s.entered iff1 iff2 target).iff1 = iff1 ∧ (s.entered iff1 iff2 target).iff2 = iff2
        ∧ (s.entered iff1 iff2 target).halted = false
        ∧ (s.entered iff1 iff2 target).regR = refreshAfter s.regR 1)
      ∧ s.Pushed s.pc (s.entered iff1 iff2 target) ∧ (s.entered iff1 iff2 target).pc = target
      ∧ s.SameBut (.pc :: .iff1 :: .iff2 :: .halted :: .regR :: s.pushLocs) (s.entered iff1 iff2 target) :=
  ⟨State.accepted_of_control_eq (s.entered_control iff1 iff2 target), s.entered_pushed iff1 iff2 target,
    s.entered_pc iff1 iff2 target, s.entered_frame iff1 iff2 target⟩

/-- A read from memory sees the pushed bytes, before and after the jump (R629). -/
theorem State.entered_readByte (s : State) (iff1 iff2 : Bool) (target a : Word) :
    (s.entered iff1 iff2 target).readByte a = ((s.accept iff1 iff2).push16 s.pc).readByte a :=
  State.setPc_readByte _ target a

/-! ### The return after a push (R634; 20_memory.md R88, R89) -/

section
variable {s t : State} {v : Word}

theorem State.Pushed.sp_add_two (h : s.Pushed v t) : t.sp + 2 = s.sp := by
  obtain ⟨hsp, -, -⟩ := h
  rw [hsp]; bv_omega

theorem State.Pushed.top_eq (h : s.Pushed v t) (hhigh : s.writable (s.sp - 1) = true)
    (hlow : s.writable (s.sp - 2) = true) : t.top = v := by
  obtain ⟨hsp, hhi, hlo⟩ := h
  have hnext : s.sp - 2 + 1 = s.sp - 1 := by bv_omega
  rw [State.top, hsp, hnext, hhi, hlo, State.stored, State.stored, if_pos hhigh, if_pos hlow, join_hi_lo]

theorem State.returnFromInterrupt_iff1 (t : State) : t.returnFromInterrupt.iff1 = t.iff2 := rfl

theorem State.returnFromInterrupt_sp (t : State) : t.returnFromInterrupt.sp = t.sp + 2 := rfl

theorem State.returnFromInterrupt_pc (t : State) : t.returnFromInterrupt.pc = t.top := rfl

end

/-! ### The data bytes of mode 0 (R626, R627) -/

/-- A byte is executed exactly when it is an unprefixed instruction of one byte: CB and ED begin longer ones, DD and FD are
prefixes. -/
theorem isOneByteOpcode_iff (data : Byte) :
    isOneByteOpcode data = true ↔ lengthOf data 0 = 1 ∧ data ≠ 0xDD ∧ data ≠ 0xFD := by
  induction data using firstByte_cases with
  | cb => rw [lengthOf_cb]; decide
  | ed => rw [lengthOf_ed]; decide
  | index fd => cases fd <;> decide
  | base op hcb hed hdd hfd =>
    rw [lengthOf_base hcb hed hdd hfd]
    simp only [isOneByteOpcode, Bool.and_eq_true, beq_iff_eq, bne_iff_ne]
    tauto

/-- The byte mode 0 executes decodes, alone, to what mode 0 runs. -/
theorem decode_of_isOneByteOpcode {data : Byte} (h : isOneByteOpcode data = true) :
    decode [data] = .ok (decodeBase data 0 0, []) := by
  obtain ⟨hlength, hdd, hfd⟩ := (isOneByteOpcode_iff data).mp h
  have hcb : data ≠ 0xCB := by rintro rfl; exact absurd hlength (by decide)
  have hed : data ≠ 0xED := by rintro rfl; exact absurd hlength (by decide)
  have hfirst : firstLength [data] = 1 := hlength
  refine decode_eq_ok_iff.mpr ⟨fun hprefix => ?_, hfirst.le, decodeBytes_base hcb hed hdd hfd 0 0 0, by rw [hfirst]; rfl⟩
  exact absurd hprefix (not_or.mpr ⟨hdd, not_or.mpr ⟨hfd, hed⟩⟩)

/-- The eight RST bytes are executed, each as its RST (R626). -/
theorem restartByte (k : BitVec 3) : isOneByteOpcode (0b11#2 ++ k ++ 0b111#3) = true
    ∧ decodeBase (0b11#2 ++ k ++ 0b111#3) 0 0 = .rst k := by
  cases k using field3_cases <;> exact ⟨rfl, rfl⟩

section
variable {s : State} {data : Byte}

theorem interrupt_ignored (h : s.iff1 = false) : interrupt data s = .next s ∧ interruptT data s = some 0 := by
  simp [interrupt, interruptT, h]

theorem interrupt_im1 (h : s.iff1 = true) (him : s.im = .im1) :
    interrupt data s = .next (s.entered false false 0x0038) ∧ interruptT data s = some 13 := by
  simp [interrupt, interruptT, h, him, State.modeOneAction, State.acceptInt_call]

theorem interrupt_im2 (h : s.iff1 = true) (him : s.im = .im2) :
    interrupt data s =
      .next (s.entered false false (((s.accept false false).push16 s.pc).readWord (joinBytes s.regI data)))
    ∧ interruptT data s = some 19 := by
  simp [interrupt, interruptT, h, him, State.acceptInt_modeTwoAction]

theorem interrupt_im0_executed (h : s.iff1 = true) (him : s.im = .im0) (hdata : isOneByteOpcode data = true) :
    interrupt data s = exec (decodeBase data 0 0) s.acceptInt
      ∧ interruptT data s = some (2 + instrT (decodeBase data 0 0) s.acceptInt) := by
  simp [interrupt, interruptT, modeZeroAction, h, him, hdata]

theorem interrupt_im0_refused (h : s.iff1 = true) (him : s.im = .im0) (hdata : isOneByteOpcode data = false) :
    interrupt data s = .refused (.im0Data data) := by
  simp [interrupt, modeZeroAction, h, him, hdata]

end

/-! ### The obligations -/

/-- Settles O59: each accepted event is an acceptance followed by the action of its mode. -/
theorem maskableInterrupts : Obligations.MaskableInterrupts := by
  intro s data common entry vector
  refine ⟨interrupt_ignored, fun h him => ?mode1, fun h him => ?mode2, fun h him => ⟨?restart, ?refused, ?executed⟩⟩
  case mode1 =>
    obtain ⟨hnext, hT⟩ := interrupt_im1 (data := data) h him
    exact ⟨hT, _, hnext, s.entered_effect false false 0x0038⟩
  case mode2 =>
    obtain ⟨hnext, hT⟩ := interrupt_im2 (data := data) h him
    obtain ⟨hcommon, hpushed, hpc, hframe⟩ :=
      s.entered_effect false false (((s.accept false false).push16 s.pc).readWord vector)
    refine ⟨hT, _, hnext, hcommon, hpushed, ?_, hframe⟩
    rw [State.entered_readByte, State.entered_readByte]
    exact hpc
  case restart =>
    rintro k rfl
    obtain ⟨hdata, hdecode⟩ := restartByte k
    obtain ⟨hnext, hT⟩ := interrupt_im0_executed h him hdata
    rw [hdecode] at hnext hT
    rw [← restart_address]
    exact ⟨hT, _, hnext.trans (next_congr (s.acceptInt_call _)), s.entered_effect false false _⟩
  case refused =>
    intro hlonger
    refine interrupt_im0_refused h him (Bool.eq_false_iff.mpr fun hdata => ?_)
    obtain ⟨hlength, hdd, hfd⟩ := (isOneByteOpcode_iff data).mp hdata
    exact hlonger.elim (· hlength) (·.elim hdd hfd)
  case executed =>
    intro hlength hdd hfd
    have hdata := (isOneByteOpcode_iff data).mpr ⟨hlength, hdd, hfd⟩
    obtain ⟨hnext, hT⟩ := interrupt_im0_executed h him hdata
    exact ⟨_, s.acceptInt, decode_of_isOneByteOpcode hdata, hnext, hT, ⟨rfl, rfl, rfl, rfl⟩, s.accept_frame false false⟩

/-- Settles O60: the NMI is an acceptance, a push and a jump, and RETN pops what was pushed and takes IFF1 from IFF2. -/
theorem nonMaskableInterruptAndReturn : Obligations.NonMaskableInterruptAndReturn := by
  intro s m
  have heffect := s.entered_effect false s.iff1 0x0066
  rw [← State.takeNmi_eq_entered] at heffect
  obtain ⟨⟨hiff1, hiff2, hhalted, hR⟩, hpushed, hpc, hframe⟩ := heffect
  refine ⟨rfl, s.takeNmi, rfl, hiff2, hiff1, hhalted, hR, hpushed, hpc, hframe, s.takeNmi.returnFromInterrupt, rfl, ?_⟩
  rw [State.returnFromInterrupt_iff1, State.returnFromInterrupt_sp, State.returnFromInterrupt_pc]
  exact ⟨hiff2, hpushed.sp_add_two, hpushed.top_eq⟩

end Sys2Proof.Machine
end

section
/-! SUPPORT and the obligation about the host's operations (60_exceptions.md R661): every one of them keeps the state's data
canonical. The events store what their instruction or their push stores; `load` and the slots are written directly. -/

namespace Sys2Proof.Machine

variable {s t : State}

/-- A taken interrupt stores what its instruction or its push stores, an ignored one nothing (R623 to R629). -/
theorem interrupt_stores {data : Byte} (h : interrupt data s = .next t) : s.Stores t := by
  have haccept : s.Stores s.acceptInt := ((State.Stores.refl.setIff _ _).setHalted _).bumpR _
  unfold interrupt at h
  split at h
  · split at h
    · unfold modeZeroAction at h
      split at h
      · exact exec_stores haccept h
      · cases h
    · cases h
      exact haccept.call _
    · cases h
      exact (haccept.push16 _).setPc _
  · cases h
    exact State.Stores.refl

/-- A `load` that completes writes its image inside the array (20_memory.md R80). -/
theorem load_inv {source : Option (List Byte)} {origin : Word} (hs : s.Inv) (h : load source origin s = .next t) :
    t.Inv := by
  obtain ⟨hwf, hbelow, hrest⟩ := hs
  cases source with
  | none => cases h
  | some bytes =>
    simp only [load] at h
    split at h
    · cases h
    · next hfits =>
      cases h
      exact ⟨Memory.wf_putAll _ _ _ hwf, Memory.below_putAll _ _ _ _ (Nat.not_lt.mp hfits) hbelow, hrest⟩

/-- Staging a byte, or emptying an input slot (20_memory.md R86). -/
theorem State.setInSlot_inv (hs : s.Inv) (q : Byte) (v : Option Byte) :
    State.Inv { s with inSlots := slotPut s.inSlots q v } := by
  obtain ⟨hwf, hbelow, hout, hin, hsize⟩ := hs
  exact ⟨hwf, hbelow, hout, slotsWf_put _ q v hin, hsize⟩

theorem State.setOutSlot_inv (hs : s.Inv) (q : Byte) (v : Option Byte) :
    State.Inv { s with outSlots := slotPut s.outSlots q v } := by
  obtain ⟨hwf, hbelow, hout, hrest⟩ := hs
  exact ⟨hwf, hbelow, slotsWf_put _ q v hout, hrest⟩

/-- The host's write of a component (10_state.md R47): only a byte of memory or a slot is data with a form to keep. -/
theorem State.poke_inv (hs : s.Inv) (p : Poke) : (s.poke p).Inv := by
  cases p with
  | mem a v => exact s.writeByte_inv a v hs
  | inSlot q v => exact State.setInSlot_inv hs q v
  | outSlot q v => exact State.setOutSlot_inv hs q v
  | flag name v => exact (s.setFlags_inv _).mpr hs
  | reg bank r v => cases bank <;> exact hs
  | f bank v => cases bank <;> exact hs
  | _ => exact hs

/-- Settles O9: operation by operation. -/
theorem hostOperationsKeepCanonicalData : Obligations.HostOperationsKeepCanonicalData := by
  intro op s t hs h
  cases op with
  | load source origin => exact load_inv hs h
  | step => exact (step_stores h).keeps_inv hs
  | interrupt data => exact (interrupt_stores h).keeps_inv hs
  | setRomRange first last => cases h; exact hs
  | nmi =>
    cases h
    exact ((((State.Stores.refl.setIff _ _).setHalted _).bumpR _).call _).keeps_inv hs
  | modify p => cases h; exact State.poke_inv hs p
  | writeWord a v => cases h; exact s.writeWord_inv a v hs
  | stageInput q v => cases h; exact State.setInSlot_inv hs q (some v)

end Sys2Proof.Machine
end

section
/-! SUPPORT and the obligations about the spec's examples: ADD A,n undone by SUB n (95_test_vectors.md S1), and the words of
the encoding tables. -/

namespace Sys2Proof.Machine

/-- A difference takes a sum back modulo 256, and borrows exactly when the sum carried. -/
theorem sub8_add8 (a n : Byte) : (sub8 (add8 a n false).1 n false).1 = a
    ∧ ((sub8 (add8 a n false).1 n false).2.c = true ↔ 256 ≤ a.toNat + n.toNat)
    ∧ (sub8 (add8 a n false).1 n false).2.n = true := by
  obtain ⟨⟨hsum, -⟩, -⟩ := addSubtractFlags a n false
  obtain ⟨-, hdiff, hborrow, -⟩ := addSubtractFlags (add8 a n false).1 n false
  have hcin : bitNat false = 0 := rfl
  refine ⟨BitVec.eq_of_toNat_eq ?_, hborrow.trans ?_, rfl⟩
  · rw [hdiff]; omega
  · omega

/-- Settles O26: both instructions write A and the flags alone, and A is as before. -/
theorem addThenSubtractRestores : Obligations.AddThenSubtractRestores := by
  intro s n
  obtain ⟨hvalue, hborrow, hsubtract⟩ := sub8_add8 (s.reg .a) n
  let t := s.putReg .a (add8 (s.reg .a) n false)
  let u := t.putReg .a (sub8 (add8 (s.reg .a) n false).1 n false)
  have hA : t.reg .a = (add8 (s.reg .a) n false).1 := by simp [t, State.putReg]
  have hsub : exec (.subN n) t = .next u := by
    show Host.Outcome.next (t.putReg .a (sub8 (t.reg .a) n false)) = _
    rw [hA]
  have hu : u.reg .a = s.reg .a := by simp [u, State.putReg, hvalue]
  have hflag (name : FlagName) : u.flag name = (sub8 (add8 (s.reg .a) n false).1 n false).2.get name := by
    simp [u, State.putReg]
  refine ⟨t, u, rfl, hsub, hu, (hflag .n).trans hsubtract, ?carry, ?frame⟩
  case carry => rw [hflag]; exact hborrow
  case frame =>
    exact State.SameBut.of_cons_sameAt ((s.putReg_frame .a _).andThen (t.putReg_frame .a _) (List.Subset.refl _)
      (List.Subset.refl _)) hu

/-- Settles O4: word by word, each word is all of its instruction. -/
theorem decodesSpecWords : Obligations.DecodesSpecWords :=
  ⟨rfl, rfl, rfl, rfl, rfl, rfl, rfl, rfl, rfl, rfl, rfl⟩

end Sys2Proof.Machine
end
